-- ==== Sys2Proof/Word.lean ====
section
/-! DEFINITION. The words of the machine (00_scope.md R7, 10_state.md R21, R22, R27): 64-bit registers, their
32-bit halves, bytes, and the fields of an instruction. Plain names over `BitVec`, nothing else. -/

namespace Sys2Proof

/-- A register value: 64 bits (R21). -/
abbrev Word := BitVec 64

/-- The 32-bit view of a register, and the `imm` field (R22, R68). -/
abbrev Half := BitVec 32

/-- One byte of data memory or of the program text (R40). -/
abbrev Byte := BitVec 8

/-- The `imm` and `next_imm` fields (R68, R69). -/
abbrev Imm := BitVec 32

/-- The `offset` field (R67). -/
abbrev Off := BitVec 16

/-- A 4-bit register field as it stands in the instruction (R66). -/
abbrev Nibble := BitVec 4

end Sys2Proof
end

