-- ==== Sys2Proof/Config.lean ====
section
/-! DEFINITION. The parameters of the machine (00_scope.md R5, 92_eei_decisions.md "Parameters the model takes") as
plain data, the registers' names, and the free values of the spec as constants without a body.

Every parameter of R5 that is a choice is a field of `Params`, which `State` carries: one step function then speaks of
little-endian and big-endian hosts, of strict and lax decoding and of every memory map at once. `NREGS = 11` is the
type `Reg`; `PROG` and `LEN` are the program text in `State`; `ENTRY_REGS` is an argument of `State.launch`. -/

namespace Sys2Proof

/-- R0 to R10 (R20; `NREGS = 11`, D4). Numbers 11 to 15 name no register (R25). -/
inductive Reg where
  | r0 | r1 | r2 | r3 | r4 | r5 | r6 | r7 | r8 | r9 | r10
deriving DecidableEq, Repr

/-- `HOST_ENDIAN` (R5, R41). -/
inductive Endian where
  | little | big
deriving DecidableEq, Repr

/-- `UNUSED_FIELDS` (R5, R83). -/
inductive UnusedFields where
  | mustBeZero | ignored
deriving DecidableEq, Repr

/-- `LDST_PROFILE` (R5, R88, R223). -/
inductive LdstProfile where
  | refuse | supplement
deriving DecidableEq, Repr

/-- `CALLEE_FP`, the frame pointer a callee gets as a function of the caller's R10 (R5, R202, D19). -/
inductive CalleeFp where
  /-- the caller's own (the "bare source semantics" of R202) -/
  | identity
  /-- `fp - STACK_FRAME` (D19, the supplement's and the vectors' choice) -/
  | below
  /-- any other function of the platform's: the free value `Config.calleeFp` -/
  | platform
deriving DecidableEq, Repr

/-- One range of `REGIONS` (R40, R231, D27), with the permission it gives and R48's `shared` mark. -/
structure Region where
  base : Nat
  size : Nat
  readable : Bool
  writable : Bool
  shared : Bool
deriving DecidableEq, Repr

/-- One thing a helper may do when it is called (R201). -/
inductive HelperOutcome where
  /-- it returns `r0` and writes these bytes of memory -/
  | returns (r0 : Word) (writes : List (Nat × Byte))
  /-- it raises a fault of its own (R260, last row); the number stands for what the helper's fault says (log entry 27) -/
  | faults (code : Nat)
  /-- its relation has no result (R201: "stuck") -/
  | stuck
deriving DecidableEq, Repr, Inhabited

/-- One known pair of a helper's relation (R201, D20): on the argument values `args`, in a memory that holds these bytes
`mem`, the helper may do `outcome`. -/
structure HelperCase where
  args : List Word
  mem : List (Nat × Byte)
  outcome : HelperOutcome
deriving DecidableEq, Repr

/-- The two maps of helpers: `HELPERS` by static ID (R201), `BTF_HELPERS` by BTF ID (R203). -/
inductive HelperKind where
  | static | btf
deriving DecidableEq, Repr

/-- One entry of `HELPERS` or `BTF_HELPERS` (R5, R201, R203, R208): the ID, the argument registers the helper reads, and
what is known of its relation of argument values and memory to outcomes. Several cases on the same arguments and memory
are several allowed outcomes (D20: "may be non-deterministic"); where there is none, what the helper does is the free
value `Config.helperAnswer` (U13). Log entry 11. -/
structure Helper where
  id : Imm
  reads : List Reg
  cases : List HelperCase
deriving DecidableEq, Repr

/-- The parameters of R5 that a run fixes. No instruction changes them. -/
structure Params where
  hostEndian : Endian
  unusedFields : UnusedFields
  strictMovsx : Bool
  ldstProfile : LdstProfile
  maxCallDepth : Nat
  calleeFp : CalleeFp
  stackFrame : Nat
  helpers : List Helper
  btfHelpers : List Helper
  regions : List Region
  allowMisaligned : Bool
deriving DecidableEq, Repr

/-- The parameter values of the reset state: R5's defaults, and for the OPEN ones the values of the spec's own test
vectors (95_test_vectors.md "Conventions", 96_supplement_vectors.md). DESIGN CHOICE, log entries 2 and 3;
`LDST_PROFILE = supplement` is log entry 4. -/
def Params.reset : Params where
  hostEndian := .little
  unusedFields := .mustBeZero
  strictMovsx := false
  ldstProfile := .supplement
  maxCallDepth := 8
  calleeFp := .below
  stackFrame := 512
  helpers := []
  btfHelpers := []
  regions := [{ base := 0x1e00, size := 0x200, readable := true, writable := true, shared := false }]
  allowMisaligned := false

namespace Config

/-- The launch contents of a byte of data memory that nothing has set (R36, R291, U18: "any value per byte"), by
address. Free value, log entry 9. -/
opaque launchByte : Nat → Byte

/-- The byte that one load from a shared region gets (R48: "answers every load from an oracle: any bytes"), by the
number of the draw. Free value, log entry 10. -/
opaque sharedByte : Nat → Byte

/-- What a helper does where no known case says it (R201, U13: any R0, any memory written, a fault of its own or no
result), by the number of the draw, the map and the ID that name it, the argument values it read and the memory it may
read. Free value, log entry 11. -/
opaque helperAnswer : Nat → HelperKind → Imm → List Word → List (Nat × Byte) → HelperOutcome

/-- Which of several allowed outcomes a helper takes (R201: "any result"), by the number of the draw. Free value, log
entry 11. -/
opaque helperChoice : Nat → Nat

/-- The byte that a helper reads at an address of a shared region (R48), by the number of the draw and the address. Free
value, log entry 10. -/
opaque helperSees : Nat → Nat → Byte

/-- `CALLEE_FP` where it is neither the identity nor one frame below (R5). Free value, log entry 12. -/
opaque calleeFp : Word → Word

/-- `map_by_fd` of `LD IMM DW` (R234). Free value, log entry 13. -/
opaque mapByFd : Imm → Word

/-- `map_by_idx` of `LD IMM DW` (R234). Free value, log entry 13. -/
opaque mapByIdx : Imm → Word

/-- `map_val` of `LD IMM DW` (R234). Free value, log entry 13. -/
opaque mapVal : Word → Word

/-- `var_addr` of `LD IMM DW` (R234). Free value, log entry 13. -/
opaque varAddr : Imm → Word

/-- `code_addr` of `LD IMM DW` (R234). Free value, log entry 13. -/
opaque codeAddr : Imm → Word

end Config

end Sys2Proof
end

