-- ==== Sys2Proof/Syntax.lean ====
section
/-! DEFINITION. The instructions: one constructor per row of spec/opcode_table.json, in the table's order, named after
the row's mnemonic. Each constructor's comment names the rule that gives its meaning.

Operands. `dst` and `src` are the registers the 4-bit fields name; `imm`, `nextImm` and `off` are the fields as they
stand (R67 to R69). `anySrc` is the `src_reg` field of a K-form conditional jump, which the source leaves "any": it is
kept because it is part of the instruction's bits, and nothing reads it (R78). `rest` is everything above the opcode
byte of a legacy packet load, which the spec does not decode into operands (R235). -/

namespace Sys2Proof

/-- The rows of the opcode table (R92). -/
inductive Instr where
  -- Classes ALU64 and ALU (R74; 40_arithmetic.md)
  | add64K (dst : Reg) (imm : Imm) -- R103
  | add64X (dst src : Reg) -- R103
  | add32K (dst : Reg) (imm : Imm) -- R104
  | add32X (dst src : Reg) -- R104
  | sub64K (dst : Reg) (imm : Imm) -- R105
  | sub64X (dst src : Reg) -- R105
  | sub32K (dst : Reg) (imm : Imm) -- R106
  | sub32X (dst src : Reg) -- R106
  | mul64K (dst : Reg) (imm : Imm) -- R107
  | mul64X (dst src : Reg) -- R107
  | mul32K (dst : Reg) (imm : Imm) -- R108
  | mul32X (dst src : Reg) -- R108
  | div64K (dst : Reg) (imm : Imm) -- R109
  | div64X (dst src : Reg) -- R109
  | div32K (dst : Reg) (imm : Imm) -- R110
  | div32X (dst src : Reg) -- R110
  | sdiv64K (dst : Reg) (imm : Imm) -- R111
  | sdiv64X (dst src : Reg) -- R111
  | sdiv32K (dst : Reg) (imm : Imm) -- R112
  | sdiv32X (dst src : Reg) -- R112
  | or64K (dst : Reg) (imm : Imm) -- R113
  | or64X (dst src : Reg) -- R113
  | or32K (dst : Reg) (imm : Imm) -- R114
  | or32X (dst src : Reg) -- R114
  | and64K (dst : Reg) (imm : Imm) -- R115
  | and64X (dst src : Reg) -- R115
  | and32K (dst : Reg) (imm : Imm) -- R116
  | and32X (dst src : Reg) -- R116
  | lsh64K (dst : Reg) (imm : Imm) -- R117
  | lsh64X (dst src : Reg) -- R117
  | lsh32K (dst : Reg) (imm : Imm) -- R118
  | lsh32X (dst src : Reg) -- R118
  | rsh64K (dst : Reg) (imm : Imm) -- R119
  | rsh64X (dst src : Reg) -- R119
  | rsh32K (dst : Reg) (imm : Imm) -- R120
  | rsh32X (dst src : Reg) -- R120
  | mod64K (dst : Reg) (imm : Imm) -- R123
  | mod64X (dst src : Reg) -- R123
  | mod32K (dst : Reg) (imm : Imm) -- R124
  | mod32X (dst src : Reg) -- R124
  | smod64K (dst : Reg) (imm : Imm) -- R125
  | smod64X (dst src : Reg) -- R125
  | smod32K (dst : Reg) (imm : Imm) -- R126
  | smod32X (dst src : Reg) -- R126
  | xor64K (dst : Reg) (imm : Imm) -- R127
  | xor64X (dst src : Reg) -- R127
  | xor32K (dst : Reg) (imm : Imm) -- R128
  | xor32X (dst src : Reg) -- R128
  | mov64K (dst : Reg) (imm : Imm) -- R129
  | mov64X (dst src : Reg) -- R129
  | mov32K (dst : Reg) (imm : Imm) -- R130
  | mov32X (dst src : Reg) -- R130
  | arsh64K (dst : Reg) (imm : Imm) -- R135
  | arsh64X (dst src : Reg) -- R135
  | arsh32K (dst : Reg) (imm : Imm) -- R136
  | arsh32X (dst src : Reg) -- R136
  | neg64 (dst : Reg) -- R121
  | neg32 (dst : Reg) -- R122
  | movsx64X8 (dst src : Reg) -- R131
  | movsx64X16 (dst src : Reg) -- R131
  | movsx64X32 (dst src : Reg) -- R131
  | movsx64K8 (dst : Reg) (imm : Imm) -- R133
  | movsx64K16 (dst : Reg) (imm : Imm) -- R133
  | movsx64K32 (dst : Reg) (imm : Imm) -- R133
  | movsx32X8 (dst src : Reg) -- R132
  | movsx32X16 (dst src : Reg) -- R132
  | movsx32X32 (dst src : Reg) -- R134
  | movsx32K8 (dst : Reg) (imm : Imm) -- R133
  | movsx32K16 (dst : Reg) (imm : Imm) -- R133
  | movsx32K32 (dst : Reg) (imm : Imm) -- R133
  -- END, the byte swaps (R74, R77; 41_byteswap.md)
  | tole16 (dst : Reg) -- R152
  | tole32 (dst : Reg) -- R152
  | tole64 (dst : Reg) -- R152
  | tobe16 (dst : Reg) -- R153
  | tobe32 (dst : Reg) -- R153
  | tobe64 (dst : Reg) -- R153
  | bswap16 (dst : Reg) -- R154
  | bswap32 (dst : Reg) -- R154
  | bswap64 (dst : Reg) -- R154
  -- Classes JMP and JMP32 (R75; 42_jump.md)
  | ja (off : Off) -- R164
  | ja32 (imm : Imm) -- R165
  | jeqK (dst : Reg) (anySrc : Nibble) (off : Off) (imm : Imm) -- R166
  | jeqX (dst src : Reg) (off : Off) -- R166
  | jeq32K (dst : Reg) (anySrc : Nibble) (off : Off) (imm : Imm) -- R167
  | jeq32X (dst src : Reg) (off : Off) -- R167
  | jgtK (dst : Reg) (anySrc : Nibble) (off : Off) (imm : Imm) -- R168
  | jgtX (dst src : Reg) (off : Off) -- R168
  | jgt32K (dst : Reg) (anySrc : Nibble) (off : Off) (imm : Imm) -- R169
  | jgt32X (dst src : Reg) (off : Off) -- R169
  | jgeK (dst : Reg) (anySrc : Nibble) (off : Off) (imm : Imm) -- R170
  | jgeX (dst src : Reg) (off : Off) -- R170
  | jge32K (dst : Reg) (anySrc : Nibble) (off : Off) (imm : Imm) -- R171
  | jge32X (dst src : Reg) (off : Off) -- R171
  | jsetK (dst : Reg) (anySrc : Nibble) (off : Off) (imm : Imm) -- R172
  | jsetX (dst src : Reg) (off : Off) -- R172
  | jset32K (dst : Reg) (anySrc : Nibble) (off : Off) (imm : Imm) -- R173
  | jset32X (dst src : Reg) (off : Off) -- R173
  | jneK (dst : Reg) (anySrc : Nibble) (off : Off) (imm : Imm) -- R174
  | jneX (dst src : Reg) (off : Off) -- R174
  | jne32K (dst : Reg) (anySrc : Nibble) (off : Off) (imm : Imm) -- R175
  | jne32X (dst src : Reg) (off : Off) -- R175
  | jsgtK (dst : Reg) (anySrc : Nibble) (off : Off) (imm : Imm) -- R176
  | jsgtX (dst src : Reg) (off : Off) -- R176
  | jsgt32K (dst : Reg) (anySrc : Nibble) (off : Off) (imm : Imm) -- R177
  | jsgt32X (dst src : Reg) (off : Off) -- R177
  | jsgeK (dst : Reg) (anySrc : Nibble) (off : Off) (imm : Imm) -- R178
  | jsgeX (dst src : Reg) (off : Off) -- R178
  | jsge32K (dst : Reg) (anySrc : Nibble) (off : Off) (imm : Imm) -- R179
  | jsge32X (dst src : Reg) (off : Off) -- R179
  | jltK (dst : Reg) (anySrc : Nibble) (off : Off) (imm : Imm) -- R180
  | jltX (dst src : Reg) (off : Off) -- R180
  | jlt32K (dst : Reg) (anySrc : Nibble) (off : Off) (imm : Imm) -- R181
  | jlt32X (dst src : Reg) (off : Off) -- R181
  | jleK (dst : Reg) (anySrc : Nibble) (off : Off) (imm : Imm) -- R182
  | jleX (dst src : Reg) (off : Off) -- R182
  | jle32K (dst : Reg) (anySrc : Nibble) (off : Off) (imm : Imm) -- R183
  | jle32X (dst src : Reg) (off : Off) -- R183
  | jsltK (dst : Reg) (anySrc : Nibble) (off : Off) (imm : Imm) -- R184
  | jsltX (dst src : Reg) (off : Off) -- R184
  | jslt32K (dst : Reg) (anySrc : Nibble) (off : Off) (imm : Imm) -- R185
  | jslt32X (dst src : Reg) (off : Off) -- R185
  | jsleK (dst : Reg) (anySrc : Nibble) (off : Off) (imm : Imm) -- R186
  | jsleX (dst src : Reg) (off : Off) -- R186
  | jsle32K (dst : Reg) (anySrc : Nibble) (off : Off) (imm : Imm) -- R187
  | jsle32X (dst src : Reg) (off : Off) -- R187
  -- CALL and EXIT (R75, R78; 43_call_exit.md)
  | callHelper (id : Imm) -- R201
  | callLocal (imm : Imm) -- R202
  | callBtf (id : Imm) -- R203
  | exit -- R205
  -- Class LDX, MEM and MEMSX (R227, R230)
  | ldxw (dst src : Reg) (off : Off) -- R227
  | ldxh (dst src : Reg) (off : Off) -- R227
  | ldxb (dst src : Reg) (off : Off) -- R227
  | ldxdw (dst src : Reg) (off : Off) -- R227
  -- Class ST (R228)
  | stw (dst : Reg) (off : Off) (imm : Imm) -- R228
  | sth (dst : Reg) (off : Off) (imm : Imm) -- R228
  | stb (dst : Reg) (off : Off) (imm : Imm) -- R228
  | stdw (dst : Reg) (off : Off) (imm : Imm) -- R228
  -- Class STX, MEM (R229)
  | stxw (dst src : Reg) (off : Off) -- R229
  | stxh (dst src : Reg) (off : Off) -- R229
  | stxb (dst src : Reg) (off : Off) -- R229
  | stxdw (dst src : Reg) (off : Off) -- R229
  -- Class LDX, MEM and MEMSX (R227, R230)
  | ldxsw (dst src : Reg) (off : Off) -- R230
  | ldxsh (dst src : Reg) (off : Off) -- R230
  | ldxsb (dst src : Reg) (off : Off) -- R230
  -- Class LD, the 128-bit immediate load (R232 to R234)
  | lddw (dst : Reg) (imm nextImm : Imm) -- R233
  | lddwSubtype1 (dst : Reg) (imm nextImm : Imm) -- R234
  | lddwSubtype2 (dst : Reg) (imm nextImm : Imm) -- R234
  | lddwSubtype3 (dst : Reg) (imm nextImm : Imm) -- R234
  | lddwSubtype4 (dst : Reg) (imm nextImm : Imm) -- R234
  | lddwSubtype5 (dst : Reg) (imm nextImm : Imm) -- R234
  | lddwSubtype6 (dst : Reg) (imm nextImm : Imm) -- R234
  -- Class STX, ATOMIC (R240)
  | atomic32Add (dst src : Reg) (off : Off) -- R240
  | atomic32Or (dst src : Reg) (off : Off) -- R240
  | atomic32And (dst src : Reg) (off : Off) -- R240
  | atomic32Xor (dst src : Reg) (off : Off) -- R240
  | atomic32FetchAdd (dst src : Reg) (off : Off) -- R240
  | atomic32FetchOr (dst src : Reg) (off : Off) -- R240
  | atomic32FetchAnd (dst src : Reg) (off : Off) -- R240
  | atomic32FetchXor (dst src : Reg) (off : Off) -- R240
  | atomic32Xchg (dst src : Reg) (off : Off) -- R240
  | atomic32Cmpxchg (dst src : Reg) (off : Off) -- R240
  | atomic64Add (dst src : Reg) (off : Off) -- R240
  | atomic64Or (dst src : Reg) (off : Off) -- R240
  | atomic64And (dst src : Reg) (off : Off) -- R240
  | atomic64Xor (dst src : Reg) (off : Off) -- R240
  | atomic64FetchAdd (dst src : Reg) (off : Off) -- R240
  | atomic64FetchOr (dst src : Reg) (off : Off) -- R240
  | atomic64FetchAnd (dst src : Reg) (off : Off) -- R240
  | atomic64FetchXor (dst src : Reg) (off : Off) -- R240
  | atomic64Xchg (dst src : Reg) (off : Off) -- R240
  | atomic64Cmpxchg (dst src : Reg) (off : Off) -- R240
  -- Class LD, legacy packet loads (R235)
  | ldabsw (rest : BitVec 56) -- R235
  | ldabsh (rest : BitVec 56) -- R235
  | ldabsb (rest : BitVec 56) -- R235
  | ldindw (rest : BitVec 56) -- R235
  | ldindh (rest : BitVec 56) -- R235
  | ldindb (rest : BitVec 56) -- R235
deriving DecidableEq, Repr

end Sys2Proof
end

