-- ==== Sys2Proof/WellFormed.lean ====
section
/-! DEFINITION. Which terms of `Instr` are instructions. The register fields are already registers (numbers 11 to 15
never reach a term: R25, R84); what is left is R24 and R84: no instruction writes R10 through a register field,
`src_reg` of the fetching atomics among them (log entry 26). -/

namespace Sys2Proof

/-- The register an instruction writes through one of its register fields, if it has one: `dst` of the arithmetic
instructions and of the loads (R84, R227, R232), `src` of the fetching atomics (R240). CMPXCHG writes R0, which is no
field. The calls and EXIT write registers by the machine's own act (R24, R202, R205). -/
def Instr.fieldWrite : Instr → Option Reg
  | .add64K dst _ | .add64X dst _ | .add32K dst _ | .add32X dst _ | .sub64K dst _ | .sub64X dst _ | .sub32K dst _
  | .sub32X dst _ | .mul64K dst _ | .mul64X dst _ | .mul32K dst _ | .mul32X dst _ | .div64K dst _ | .div64X dst _
  | .div32K dst _ | .div32X dst _ | .sdiv64K dst _ | .sdiv64X dst _ | .sdiv32K dst _ | .sdiv32X dst _
  | .or64K dst _ | .or64X dst _ | .or32K dst _ | .or32X dst _ | .and64K dst _ | .and64X dst _ | .and32K dst _
  | .and32X dst _ | .lsh64K dst _ | .lsh64X dst _ | .lsh32K dst _ | .lsh32X dst _ | .rsh64K dst _ | .rsh64X dst _
  | .rsh32K dst _ | .rsh32X dst _ | .mod64K dst _ | .mod64X dst _ | .mod32K dst _ | .mod32X dst _ | .smod64K dst _
  | .smod64X dst _ | .smod32K dst _ | .smod32X dst _ | .xor64K dst _ | .xor64X dst _ | .xor32K dst _
  | .xor32X dst _ | .mov64K dst _ | .mov64X dst _ | .mov32K dst _ | .mov32X dst _ | .arsh64K dst _ | .arsh64X dst _
  | .arsh32K dst _ | .arsh32X dst _ | .neg64 dst | .neg32 dst | .movsx64X8 dst _ | .movsx64X16 dst _
  | .movsx64X32 dst _ | .movsx64K8 dst _ | .movsx64K16 dst _ | .movsx64K32 dst _ | .movsx32X8 dst _
  | .movsx32X16 dst _ | .movsx32X32 dst _ | .movsx32K8 dst _ | .movsx32K16 dst _ | .movsx32K32 dst _ | .tole16 dst
  | .tole32 dst | .tole64 dst | .tobe16 dst | .tobe32 dst | .tobe64 dst | .bswap16 dst | .bswap32 dst
  | .bswap64 dst | .ldxw dst _ _ | .ldxh dst _ _ | .ldxb dst _ _ | .ldxdw dst _ _ | .ldxsw dst _ _ | .ldxsh dst _ _
  | .ldxsb dst _ _ | .lddw dst _ _ | .lddwSubtype1 dst _ _ | .lddwSubtype2 dst _ _ | .lddwSubtype3 dst _ _
  | .lddwSubtype4 dst _ _ | .lddwSubtype5 dst _ _ | .lddwSubtype6 dst _ _ => some dst
  | .atomic32FetchAdd _ src _ | .atomic32FetchOr _ src _ | .atomic32FetchAnd _ src _ | .atomic32FetchXor _ src _
  | .atomic32Xchg _ src _ | .atomic64FetchAdd _ src _ | .atomic64FetchOr _ src _ | .atomic64FetchAnd _ src _
  | .atomic64FetchXor _ src _ | .atomic64Xchg _ src _ => some src
  | .ja _ | .ja32 _ | .jeqK _ _ _ _ | .jeqX _ _ _ | .jeq32K _ _ _ _ | .jeq32X _ _ _ | .jgtK _ _ _ _ | .jgtX _ _ _
  | .jgt32K _ _ _ _ | .jgt32X _ _ _ | .jgeK _ _ _ _ | .jgeX _ _ _ | .jge32K _ _ _ _ | .jge32X _ _ _
  | .jsetK _ _ _ _ | .jsetX _ _ _ | .jset32K _ _ _ _ | .jset32X _ _ _ | .jneK _ _ _ _ | .jneX _ _ _
  | .jne32K _ _ _ _ | .jne32X _ _ _ | .jsgtK _ _ _ _ | .jsgtX _ _ _ | .jsgt32K _ _ _ _ | .jsgt32X _ _ _
  | .jsgeK _ _ _ _ | .jsgeX _ _ _ | .jsge32K _ _ _ _ | .jsge32X _ _ _ | .jltK _ _ _ _ | .jltX _ _ _
  | .jlt32K _ _ _ _ | .jlt32X _ _ _ | .jleK _ _ _ _ | .jleX _ _ _ | .jle32K _ _ _ _ | .jle32X _ _ _
  | .jsltK _ _ _ _ | .jsltX _ _ _ | .jslt32K _ _ _ _ | .jslt32X _ _ _ | .jsleK _ _ _ _ | .jsleX _ _ _
  | .jsle32K _ _ _ _ | .jsle32X _ _ _ | .callHelper _ | .callLocal _ | .callBtf _ | .exit | .stw _ _ _ | .sth _ _ _
  | .stb _ _ _ | .stdw _ _ _ | .stxw _ _ _ | .stxh _ _ _ | .stxb _ _ _ | .stxdw _ _ _ | .atomic32Add _ _ _
  | .atomic32Or _ _ _ | .atomic32And _ _ _ | .atomic32Xor _ _ _ | .atomic32Cmpxchg _ _ _ | .atomic64Add _ _ _
  | .atomic64Or _ _ _ | .atomic64And _ _ _ | .atomic64Xor _ _ _ | .atomic64Cmpxchg _ _ _ | .ldabsw _ | .ldabsh _
  | .ldabsb _ | .ldindw _ | .ldindh _ | .ldindb _ => none

/-- R24, R84: an instruction whose rule writes a register field does not name R10 there. The spec says it of `dst_reg`; of
`src_reg` in the fetching atomics it is the model's reading (log entry 26). -/
def Instr.wellFormed (i : Instr) : Bool := i.fieldWrite != some .r10

/-- The instructions of classes LD, LDX, ST, STX (R88). -/
def Instr.isLoadStore : Instr → Bool
  | .ldxw _ _ _ | .ldxh _ _ _ | .ldxb _ _ _ | .ldxdw _ _ _ | .stw _ _ _ | .sth _ _ _ | .stb _ _ _ | .stdw _ _ _
  | .stxw _ _ _ | .stxh _ _ _ | .stxb _ _ _ | .stxdw _ _ _ | .ldxsw _ _ _ | .ldxsh _ _ _ | .ldxsb _ _ _
  | .lddw _ _ _ | .lddwSubtype1 _ _ _ | .lddwSubtype2 _ _ _ | .lddwSubtype3 _ _ _ | .lddwSubtype4 _ _ _
  | .lddwSubtype5 _ _ _ | .lddwSubtype6 _ _ _ | .atomic32Add _ _ _ | .atomic32Or _ _ _ | .atomic32And _ _ _
  | .atomic32Xor _ _ _ | .atomic32FetchAdd _ _ _ | .atomic32FetchOr _ _ _ | .atomic32FetchAnd _ _ _
  | .atomic32FetchXor _ _ _ | .atomic32Xchg _ _ _ | .atomic32Cmpxchg _ _ _ | .atomic64Add _ _ _ | .atomic64Or _ _ _
  | .atomic64And _ _ _ | .atomic64Xor _ _ _ | .atomic64FetchAdd _ _ _ | .atomic64FetchOr _ _ _
  | .atomic64FetchAnd _ _ _ | .atomic64FetchXor _ _ _ | .atomic64Xchg _ _ _ | .atomic64Cmpxchg _ _ _ | .ldabsw _
  | .ldabsh _ | .ldabsb _ | .ldindw _ | .ldindh _ | .ldindb _ => true
  | .add64K _ _ | .add64X _ _ | .add32K _ _ | .add32X _ _ | .sub64K _ _ | .sub64X _ _ | .sub32K _ _ | .sub32X _ _
  | .mul64K _ _ | .mul64X _ _ | .mul32K _ _ | .mul32X _ _ | .div64K _ _ | .div64X _ _ | .div32K _ _ | .div32X _ _
  | .sdiv64K _ _ | .sdiv64X _ _ | .sdiv32K _ _ | .sdiv32X _ _ | .or64K _ _ | .or64X _ _ | .or32K _ _ | .or32X _ _
  | .and64K _ _ | .and64X _ _ | .and32K _ _ | .and32X _ _ | .lsh64K _ _ | .lsh64X _ _ | .lsh32K _ _ | .lsh32X _ _
  | .rsh64K _ _ | .rsh64X _ _ | .rsh32K _ _ | .rsh32X _ _ | .mod64K _ _ | .mod64X _ _ | .mod32K _ _ | .mod32X _ _
  | .smod64K _ _ | .smod64X _ _ | .smod32K _ _ | .smod32X _ _ | .xor64K _ _ | .xor64X _ _ | .xor32K _ _
  | .xor32X _ _ | .mov64K _ _ | .mov64X _ _ | .mov32K _ _ | .mov32X _ _ | .arsh64K _ _ | .arsh64X _ _
  | .arsh32K _ _ | .arsh32X _ _ | .neg64 _ | .neg32 _ | .movsx64X8 _ _ | .movsx64X16 _ _ | .movsx64X32 _ _
  | .movsx64K8 _ _ | .movsx64K16 _ _ | .movsx64K32 _ _ | .movsx32X8 _ _ | .movsx32X16 _ _ | .movsx32X32 _ _
  | .movsx32K8 _ _ | .movsx32K16 _ _ | .movsx32K32 _ _ | .tole16 _ | .tole32 _ | .tole64 _ | .tobe16 _ | .tobe32 _
  | .tobe64 _ | .bswap16 _ | .bswap32 _ | .bswap64 _ | .ja _ | .ja32 _ | .jeqK _ _ _ _ | .jeqX _ _ _
  | .jeq32K _ _ _ _ | .jeq32X _ _ _ | .jgtK _ _ _ _ | .jgtX _ _ _ | .jgt32K _ _ _ _ | .jgt32X _ _ _ | .jgeK _ _ _ _
  | .jgeX _ _ _ | .jge32K _ _ _ _ | .jge32X _ _ _ | .jsetK _ _ _ _ | .jsetX _ _ _ | .jset32K _ _ _ _
  | .jset32X _ _ _ | .jneK _ _ _ _ | .jneX _ _ _ | .jne32K _ _ _ _ | .jne32X _ _ _ | .jsgtK _ _ _ _ | .jsgtX _ _ _
  | .jsgt32K _ _ _ _ | .jsgt32X _ _ _ | .jsgeK _ _ _ _ | .jsgeX _ _ _ | .jsge32K _ _ _ _ | .jsge32X _ _ _
  | .jltK _ _ _ _ | .jltX _ _ _ | .jlt32K _ _ _ _ | .jlt32X _ _ _ | .jleK _ _ _ _ | .jleX _ _ _ | .jle32K _ _ _ _
  | .jle32X _ _ _ | .jsltK _ _ _ _ | .jsltX _ _ _ | .jslt32K _ _ _ _ | .jslt32X _ _ _ | .jsleK _ _ _ _
  | .jsleX _ _ _ | .jsle32K _ _ _ _ | .jsle32X _ _ _ | .callHelper _ | .callLocal _ | .callBtf _ | .exit => false

/-- The MOVSX forms the source admits only by silence (R133, R134, D13): `STRICT_MOVSX` reserves them. -/
def Instr.isLaxMovsx : Instr → Bool
  | .movsx64K8 _ _ | .movsx64K16 _ _ | .movsx64K32 _ _ | .movsx32X32 _ _ | .movsx32K8 _ _ | .movsx32K16 _ _
  | .movsx32K32 _ _ => true
  | .add64K _ _ | .add64X _ _ | .add32K _ _ | .add32X _ _ | .sub64K _ _ | .sub64X _ _ | .sub32K _ _ | .sub32X _ _
  | .mul64K _ _ | .mul64X _ _ | .mul32K _ _ | .mul32X _ _ | .div64K _ _ | .div64X _ _ | .div32K _ _ | .div32X _ _
  | .sdiv64K _ _ | .sdiv64X _ _ | .sdiv32K _ _ | .sdiv32X _ _ | .or64K _ _ | .or64X _ _ | .or32K _ _ | .or32X _ _
  | .and64K _ _ | .and64X _ _ | .and32K _ _ | .and32X _ _ | .lsh64K _ _ | .lsh64X _ _ | .lsh32K _ _ | .lsh32X _ _
  | .rsh64K _ _ | .rsh64X _ _ | .rsh32K _ _ | .rsh32X _ _ | .mod64K _ _ | .mod64X _ _ | .mod32K _ _ | .mod32X _ _
  | .smod64K _ _ | .smod64X _ _ | .smod32K _ _ | .smod32X _ _ | .xor64K _ _ | .xor64X _ _ | .xor32K _ _
  | .xor32X _ _ | .mov64K _ _ | .mov64X _ _ | .mov32K _ _ | .mov32X _ _ | .arsh64K _ _ | .arsh64X _ _
  | .arsh32K _ _ | .arsh32X _ _ | .neg64 _ | .neg32 _ | .movsx64X8 _ _ | .movsx64X16 _ _ | .movsx64X32 _ _
  | .movsx32X8 _ _ | .movsx32X16 _ _ | .tole16 _ | .tole32 _ | .tole64 _ | .tobe16 _ | .tobe32 _ | .tobe64 _
  | .bswap16 _ | .bswap32 _ | .bswap64 _ | .ja _ | .ja32 _ | .jeqK _ _ _ _ | .jeqX _ _ _ | .jeq32K _ _ _ _
  | .jeq32X _ _ _ | .jgtK _ _ _ _ | .jgtX _ _ _ | .jgt32K _ _ _ _ | .jgt32X _ _ _ | .jgeK _ _ _ _ | .jgeX _ _ _
  | .jge32K _ _ _ _ | .jge32X _ _ _ | .jsetK _ _ _ _ | .jsetX _ _ _ | .jset32K _ _ _ _ | .jset32X _ _ _
  | .jneK _ _ _ _ | .jneX _ _ _ | .jne32K _ _ _ _ | .jne32X _ _ _ | .jsgtK _ _ _ _ | .jsgtX _ _ _
  | .jsgt32K _ _ _ _ | .jsgt32X _ _ _ | .jsgeK _ _ _ _ | .jsgeX _ _ _ | .jsge32K _ _ _ _ | .jsge32X _ _ _
  | .jltK _ _ _ _ | .jltX _ _ _ | .jlt32K _ _ _ _ | .jlt32X _ _ _ | .jleK _ _ _ _ | .jleX _ _ _ | .jle32K _ _ _ _
  | .jle32X _ _ _ | .jsltK _ _ _ _ | .jsltX _ _ _ | .jslt32K _ _ _ _ | .jslt32X _ _ _ | .jsleK _ _ _ _
  | .jsleX _ _ _ | .jsle32K _ _ _ _ | .jsle32X _ _ _ | .callHelper _ | .callLocal _ | .callBtf _ | .exit
  | .ldxw _ _ _ | .ldxh _ _ _ | .ldxb _ _ _ | .ldxdw _ _ _ | .stw _ _ _ | .sth _ _ _ | .stb _ _ _ | .stdw _ _ _
  | .stxw _ _ _ | .stxh _ _ _ | .stxb _ _ _ | .stxdw _ _ _ | .ldxsw _ _ _ | .ldxsh _ _ _ | .ldxsb _ _ _
  | .lddw _ _ _ | .lddwSubtype1 _ _ _ | .lddwSubtype2 _ _ _ | .lddwSubtype3 _ _ _ | .lddwSubtype4 _ _ _
  | .lddwSubtype5 _ _ _ | .lddwSubtype6 _ _ _ | .atomic32Add _ _ _ | .atomic32Or _ _ _ | .atomic32And _ _ _
  | .atomic32Xor _ _ _ | .atomic32FetchAdd _ _ _ | .atomic32FetchOr _ _ _ | .atomic32FetchAnd _ _ _
  | .atomic32FetchXor _ _ _ | .atomic32Xchg _ _ _ | .atomic32Cmpxchg _ _ _ | .atomic64Add _ _ _ | .atomic64Or _ _ _
  | .atomic64And _ _ _ | .atomic64Xor _ _ _ | .atomic64FetchAdd _ _ _ | .atomic64FetchOr _ _ _
  | .atomic64FetchAnd _ _ _ | .atomic64FetchXor _ _ _ | .atomic64Xchg _ _ _ | .atomic64Cmpxchg _ _ _ | .ldabsw _
  | .ldabsh _ | .ldabsb _ | .ldindw _ | .ldindh _ | .ldindb _ => false

/-- The legacy packet loads, which the spec gives no meaning (R235). -/
def Instr.isLegacy : Instr → Bool
  | .ldabsw _ | .ldabsh _ | .ldabsb _ | .ldindw _ | .ldindh _ | .ldindb _ => true
  | .add64K _ _ | .add64X _ _ | .add32K _ _ | .add32X _ _ | .sub64K _ _ | .sub64X _ _ | .sub32K _ _ | .sub32X _ _
  | .mul64K _ _ | .mul64X _ _ | .mul32K _ _ | .mul32X _ _ | .div64K _ _ | .div64X _ _ | .div32K _ _ | .div32X _ _
  | .sdiv64K _ _ | .sdiv64X _ _ | .sdiv32K _ _ | .sdiv32X _ _ | .or64K _ _ | .or64X _ _ | .or32K _ _ | .or32X _ _
  | .and64K _ _ | .and64X _ _ | .and32K _ _ | .and32X _ _ | .lsh64K _ _ | .lsh64X _ _ | .lsh32K _ _ | .lsh32X _ _
  | .rsh64K _ _ | .rsh64X _ _ | .rsh32K _ _ | .rsh32X _ _ | .mod64K _ _ | .mod64X _ _ | .mod32K _ _ | .mod32X _ _
  | .smod64K _ _ | .smod64X _ _ | .smod32K _ _ | .smod32X _ _ | .xor64K _ _ | .xor64X _ _ | .xor32K _ _
  | .xor32X _ _ | .mov64K _ _ | .mov64X _ _ | .mov32K _ _ | .mov32X _ _ | .arsh64K _ _ | .arsh64X _ _
  | .arsh32K _ _ | .arsh32X _ _ | .neg64 _ | .neg32 _ | .movsx64X8 _ _ | .movsx64X16 _ _ | .movsx64X32 _ _
  | .movsx64K8 _ _ | .movsx64K16 _ _ | .movsx64K32 _ _ | .movsx32X8 _ _ | .movsx32X16 _ _ | .movsx32X32 _ _
  | .movsx32K8 _ _ | .movsx32K16 _ _ | .movsx32K32 _ _ | .tole16 _ | .tole32 _ | .tole64 _ | .tobe16 _ | .tobe32 _
  | .tobe64 _ | .bswap16 _ | .bswap32 _ | .bswap64 _ | .ja _ | .ja32 _ | .jeqK _ _ _ _ | .jeqX _ _ _
  | .jeq32K _ _ _ _ | .jeq32X _ _ _ | .jgtK _ _ _ _ | .jgtX _ _ _ | .jgt32K _ _ _ _ | .jgt32X _ _ _ | .jgeK _ _ _ _
  | .jgeX _ _ _ | .jge32K _ _ _ _ | .jge32X _ _ _ | .jsetK _ _ _ _ | .jsetX _ _ _ | .jset32K _ _ _ _
  | .jset32X _ _ _ | .jneK _ _ _ _ | .jneX _ _ _ | .jne32K _ _ _ _ | .jne32X _ _ _ | .jsgtK _ _ _ _ | .jsgtX _ _ _
  | .jsgt32K _ _ _ _ | .jsgt32X _ _ _ | .jsgeK _ _ _ _ | .jsgeX _ _ _ | .jsge32K _ _ _ _ | .jsge32X _ _ _
  | .jltK _ _ _ _ | .jltX _ _ _ | .jlt32K _ _ _ _ | .jlt32X _ _ _ | .jleK _ _ _ _ | .jleX _ _ _ | .jle32K _ _ _ _
  | .jle32X _ _ _ | .jsltK _ _ _ _ | .jsltX _ _ _ | .jslt32K _ _ _ _ | .jslt32X _ _ _ | .jsleK _ _ _ _
  | .jsleX _ _ _ | .jsle32K _ _ _ _ | .jsle32X _ _ _ | .callHelper _ | .callLocal _ | .callBtf _ | .exit
  | .ldxw _ _ _ | .ldxh _ _ _ | .ldxb _ _ _ | .ldxdw _ _ _ | .stw _ _ _ | .sth _ _ _ | .stb _ _ _ | .stdw _ _ _
  | .stxw _ _ _ | .stxh _ _ _ | .stxb _ _ _ | .stxdw _ _ _ | .ldxsw _ _ _ | .ldxsh _ _ _ | .ldxsb _ _ _
  | .lddw _ _ _ | .lddwSubtype1 _ _ _ | .lddwSubtype2 _ _ _ | .lddwSubtype3 _ _ _ | .lddwSubtype4 _ _ _
  | .lddwSubtype5 _ _ _ | .lddwSubtype6 _ _ _ | .atomic32Add _ _ _ | .atomic32Or _ _ _ | .atomic32And _ _ _
  | .atomic32Xor _ _ _ | .atomic32FetchAdd _ _ _ | .atomic32FetchOr _ _ _ | .atomic32FetchAnd _ _ _
  | .atomic32FetchXor _ _ _ | .atomic32Xchg _ _ _ | .atomic32Cmpxchg _ _ _ | .atomic64Add _ _ _ | .atomic64Or _ _ _
  | .atomic64And _ _ _ | .atomic64Xor _ _ _ | .atomic64FetchAdd _ _ _ | .atomic64FetchOr _ _ _
  | .atomic64FetchAnd _ _ _ | .atomic64FetchXor _ _ _ | .atomic64Xchg _ _ _ | .atomic64Cmpxchg _ _ _ => false

/-- The instructions that the parameters let a program use (R88, R133, R134). -/
def Instr.admitted (p : Params) (i : Instr) : Bool :=
  !(p.ldstProfile == .refuse && i.isLoadStore) && !(p.strictMovsx && i.isLaxMovsx)

end Sys2Proof
end

