-- ==== Sys2Proof/Decode.lean ====
section
/-! DEFINITION. From the bytes of the program text to instructions and back (30_encoding.md).

A slot is eight bytes (R61). `Slot.fields` reads them in the host's byte order (R70), `decode` selects the instruction
(R74, R75, R88; 44_load_store.md R224 to R240) and answers it with the slots after it, or rejects the bytes by name.
`encode` is written from the same tables. -/

namespace Sys2Proof

/-! ### Slots, fields, canonical words -/

/-- The eight bytes of a slot, lowest address first (R61, R70). -/
structure Slot where
  b0 : Byte
  b1 : Byte
  b2 : Byte
  b3 : Byte
  b4 : Byte
  b5 : Byte
  b6 : Byte
  b7 : Byte
deriving DecidableEq, Repr

/-- The five fields of a basic instruction (R61, R66). -/
structure Fields where
  opcode : BitVec 8
  dst : Nibble
  src : Nibble
  off : Off
  imm : Imm
deriving DecidableEq, Repr

/-- R70: the fields of a slot on each host. -/
def Slot.fields (e : Endian) (s : Slot) : Fields :=
  match e with
  | .little =>
    { opcode := s.b0, dst := s.b1.extractLsb' 0 4, src := s.b1.extractLsb' 4 4,
      off := s.b3 ++ s.b2, imm := s.b7 ++ s.b6 ++ s.b5 ++ s.b4 }
  | .big =>
    { opcode := s.b0, dst := s.b1.extractLsb' 4 4, src := s.b1.extractLsb' 0 4,
      off := s.b2 ++ s.b3, imm := s.b4 ++ s.b5 ++ s.b6 ++ s.b7 }

/-- R70 read backwards: the slot that holds the fields. -/
def Slot.ofFields (e : Endian) (f : Fields) : Slot :=
  match e with
  | .little =>
    { b0 := f.opcode, b1 := f.src ++ f.dst,
      b2 := f.off.extractLsb' 0 8, b3 := f.off.extractLsb' 8 8,
      b4 := f.imm.extractLsb' 0 8, b5 := f.imm.extractLsb' 8 8,
      b6 := f.imm.extractLsb' 16 8, b7 := f.imm.extractLsb' 24 8 }
  | .big =>
    { b0 := f.opcode, b1 := f.dst ++ f.src,
      b2 := f.off.extractLsb' 8 8, b3 := f.off.extractLsb' 0 8,
      b4 := f.imm.extractLsb' 24 8, b5 := f.imm.extractLsb' 16 8,
      b6 := f.imm.extractLsb' 8 8, b7 := f.imm.extractLsb' 0 8 }

/-- The `reserved` field of the second slot of an extended instruction (R62). -/
def Slot.reserved (e : Endian) (s : Slot) : Half :=
  match e with
  | .little => s.b3 ++ s.b2 ++ s.b1 ++ s.b0
  | .big => s.b0 ++ s.b1 ++ s.b2 ++ s.b3

/-- The `next_imm` field of the second slot of an extended instruction (R62, R69). -/
def Slot.nextImm (e : Endian) (s : Slot) : Imm :=
  match e with
  | .little => s.b7 ++ s.b6 ++ s.b5 ++ s.b4
  | .big => s.b4 ++ s.b5 ++ s.b6 ++ s.b7

/-- The second slot of an extended instruction that holds `reserved` and `next_imm` (R62, R70). -/
def Slot.ofSecond (e : Endian) (reserved nextImm : Half) : Slot :=
  match e with
  | .little =>
    { b0 := reserved.extractLsb' 0 8, b1 := reserved.extractLsb' 8 8,
      b2 := reserved.extractLsb' 16 8, b3 := reserved.extractLsb' 24 8,
      b4 := nextImm.extractLsb' 0 8, b5 := nextImm.extractLsb' 8 8,
      b6 := nextImm.extractLsb' 16 8, b7 := nextImm.extractLsb' 24 8 }
  | .big =>
    { b0 := reserved.extractLsb' 24 8, b1 := reserved.extractLsb' 16 8,
      b2 := reserved.extractLsb' 8 8, b3 := reserved.extractLsb' 0 8,
      b4 := nextImm.extractLsb' 24 8, b5 := nextImm.extractLsb' 16 8,
      b6 := nextImm.extractLsb' 8 8, b7 := nextImm.extractLsb' 0 8 }

/-- R70: the canonical word `W`. -/
def Fields.word (f : Fields) : BitVec 64 := f.imm ++ f.off ++ f.src ++ f.dst ++ f.opcode

/-- R70 read backwards: the fields of a canonical word. -/
def Fields.ofWord (w : BitVec 64) : Fields where
  opcode := w.extractLsb' 0 8
  dst := w.extractLsb' 8 4
  src := w.extractLsb' 12 4
  off := w.extractLsb' 16 16
  imm := w.extractLsb' 32 32

/-- The slot of a canonical word `W` (R70). -/
def Slot.ofWord (e : Endian) (w : BitVec 64) : Slot := Slot.ofFields e (Fields.ofWord w)

/-- The slot of a second canonical word `W2 = reserved | next_imm << 32` (R70). -/
def Slot.ofWord2 (e : Endian) (w : BitVec 64) : Slot :=
  Slot.ofSecond e (w.extractLsb' 0 32) (w.extractLsb' 32 32)

/-- R87: the one opcode byte whose instruction fills two slots. -/
def Slot.isExtended (s : Slot) : Bool := s.b0 == 0x18#8

/-! ### Register numbers -/

/-- The register that a 4-bit field names; 11 to 15 name none (R20, R25). -/
def Reg.ofNibble (n : Nibble) : Option Reg :=
  match n.toNat with
  | 0 => some .r0
  | 1 => some .r1
  | 2 => some .r2
  | 3 => some .r3
  | 4 => some .r4
  | 5 => some .r5
  | 6 => some .r6
  | 7 => some .r7
  | 8 => some .r8
  | 9 => some .r9
  | 10 => some .r10
  | _ => none

/-- The number of a register (R20). -/
def Reg.nibble : Reg → Nibble
  | .r0 => 0
  | .r1 => 1
  | .r2 => 2
  | .r3 => 3
  | .r4 => 4
  | .r5 => 5
  | .r6 => 6
  | .r7 => 7
  | .r8 => 8
  | .r9 => 9
  | .r10 => 10

/-! ### The decoder -/

/-- Why bytes are not an instruction. All but `loadStoreClass` are reserved encodings (R81 to R84, R86, R236). -/
inductive DecodeError where
  /-- R88, R223: a byte of class LD, LDX, ST or STX under `LDST_PROFILE = refuse`; refused, not reserved -/
  | loadStoreClass
  /-- R81, R236: no instruction has this opcode byte -/
  | noInstruction
  /-- R82: a form the tables' "only" notes exclude -/
  | onlyNote
  /-- R76, R81: an `offset` selector with no instruction; for 0x18 a non-zero `offset` (R232) -/
  | offset
  /-- R77, R81: END with `imm` not 16, 32 or 64 -/
  | swapWidth
  /-- R204: CALL with `src_reg` not 0, 1 or 2 -/
  | callForm
  /-- R82: JA or EXIT with `src_reg` not 0 -/
  | srcReg
  /-- R83: a non-zero unused field (NEG with `s` = 1 included) -/
  | unusedField
  /-- R84: a used register field with 11 to 15, or R10 where the instruction writes it -/
  | registerNumber
  /-- D13: a MOVSX form reserved by `STRICT_MOVSX` -/
  | strictMovsx
  /-- R63: `reserved` of an extended instruction is not zero -/
  | reservedField
  /-- R86: no slot, or an extended instruction without its second slot -/
  | truncated
  /-- R234: `LD IMM DW` with `src_reg` 7 or more -/
  | lddwSubtype
  /-- R240: ATOMIC with an `imm` that selects no operation -/
  | atomicOperation
deriving DecidableEq, Repr

/-- What decoding bytes to an instruction answers. -/
abbrev Decoded := Except DecodeError Instr

/-- A register field that is read (R25, R84): R0 to R10. -/
def readReg (n : Nibble) : Except DecodeError Reg :=
  match Reg.ofNibble n with
  | some r => .ok r
  | none => .error .registerNumber

/-- A register field that is written (R24, R84): R0 to R9. -/
def writtenReg (n : Nibble) : Except DecodeError Reg :=
  match Reg.ofNibble n with
  | some .r10 => .error .registerNumber
  | some r => .ok r
  | none => .error .registerNumber

/-- R83: a field the instruction does not use holds `zero`, or the parameter says that it is ignored. -/
def Params.unused (p : Params) (zero : Bool) (d : Decoded) : Decoded :=
  if zero || p.unusedFields == .ignored then d else .error .unusedField

/-- D13: the form exists unless `STRICT_MOVSX`. -/
def Params.lax (p : Params) (d : Decoded) : Decoded := if p.strictMovsx then .error .strictMovsx else d

/-- An arithmetic K-form: `src_reg` unused, `dst` written (R83, R84). -/
def kForm (p : Params) (f : Fields) (mk : Reg → Imm → Instr) : Decoded :=
  p.unused (f.src == 0) ((writtenReg f.dst).map fun d => mk d f.imm)

/-- An arithmetic X-form or a load: `imm` unused, `dst` written, `src` read (R83, R84, R227). -/
def xForm (p : Params) (f : Fields) (mk : Reg → Reg → Instr) : Decoded :=
  p.unused (f.imm == 0) ((writtenReg f.dst).bind fun d => (readReg f.src).map fun s => mk d s)

/-- NEG: `src_reg` and `imm` unused (R83). -/
def negForm (p : Params) (f : Fields) (mk : Reg → Instr) : Decoded :=
  p.unused (f.src == 0 && f.imm == 0) ((writtenReg f.dst).map mk)

/-- END: `src_reg` unused, `imm` a selector (R77, R83). -/
def endForm (p : Params) (f : Fields) (mk : Reg → Instr) : Decoded :=
  p.unused (f.src == 0) ((writtenReg f.dst).map mk)

/-- A conditional jump, K-form: `src_reg` is never checked (R78, R84). -/
def jumpKForm (f : Fields) (mk : Reg → Nibble → Off → Imm → Instr) : Decoded :=
  (readReg f.dst).map fun d => mk d f.src f.off f.imm

/-- A conditional jump, X-form: `imm` unused (R83, R84). -/
def jumpXForm (p : Params) (f : Fields) (mk : Reg → Reg → Off → Instr) : Decoded :=
  p.unused (f.imm == 0) ((readReg f.dst).bind fun d => (readReg f.src).map fun s => mk d s f.off)

/-- A load of class LDX: `imm` unused, `dst` written, `src` the base (R227, R230). -/
def ldxForm (p : Params) (f : Fields) (mk : Reg → Reg → Off → Instr) : Decoded :=
  xForm p f fun d s => mk d s f.off

/-- A store of class ST: `src_reg` unused, `dst` the base (R228, R231). -/
def stForm (p : Params) (f : Fields) (mk : Reg → Off → Imm → Instr) : Decoded :=
  p.unused (f.src == 0) ((readReg f.dst).map fun d => mk d f.off f.imm)

/-- A store of class STX: `imm` unused (R229). -/
def stxForm (p : Params) (f : Fields) (mk : Reg → Reg → Off → Instr) : Decoded :=
  p.unused (f.imm == 0) ((readReg f.dst).bind fun d => (readReg f.src).map fun s => mk d s f.off)

/-- An atomic operation that writes no register field (R240); `imm` is its selector. -/
def atomicForm (f : Fields) (mk : Reg → Reg → Off → Instr) : Decoded :=
  (readReg f.dst).bind fun d => (readReg f.src).map fun s => mk d s f.off

/-- An atomic operation that writes `x[src]` (R240). `src_reg` 10 is a reserved encoding here: the spec reserves `dst` 10
alone (R24, R84), and that a field which is written through `src_reg` may not name R10 either is DEDUCED from R8, log
entry 26. -/
def fetchForm (f : Fields) (mk : Reg → Reg → Off → Instr) : Decoded :=
  (readReg f.dst).bind fun d => (writtenReg f.src).map fun s => mk d s f.off

/-- The rows of R76 with `offset` 0 alone. -/
def offset0 (f : Fields) (d0 : Decoded) : Decoded := if f.off == 0 then d0 else .error .offset

/-- The rows of R76 with `offset` 0 and 1: DIV and SDIV, MOD and SMOD. -/
def offset01 (f : Fields) (d0 d1 : Decoded) : Decoded :=
  if f.off == 0 then d0 else if f.off == 1 then d1 else .error .offset

/-- The rows of R76 with `offset` 0, 8, 16, 32: MOV and MOVSX. -/
def offsetMov (f : Fields) (d0 d8 d16 d32 : Decoded) : Decoded :=
  if f.off == 0 then d0 else if f.off == 8 then d8 else if f.off == 16 then d16
  else if f.off == 32 then d32 else .error .offset

/-- The widths of END (R77, R151). -/
def swapWidth (f : Fields) (d16 d32 d64 : Decoded) : Decoded :=
  if f.off == 0 then
    if f.imm == 16 then d16 else if f.imm == 32 then d32 else if f.imm == 64 then d64 else .error .swapWidth
  else .error .offset

/-- Class ALU (R74). -/
def decodeAlu (p : Params) (f : Fields) : Decoded :=
  match f.opcode.toNat with
  | 0x04 => offset0 f (kForm p f .add32K)
  | 0x0c => offset0 f (xForm p f .add32X)
  | 0x14 => offset0 f (kForm p f .sub32K)
  | 0x1c => offset0 f (xForm p f .sub32X)
  | 0x24 => offset0 f (kForm p f .mul32K)
  | 0x2c => offset0 f (xForm p f .mul32X)
  | 0x34 => offset01 f (kForm p f .div32K) (kForm p f .sdiv32K)
  | 0x3c => offset01 f (xForm p f .div32X) (xForm p f .sdiv32X)
  | 0x44 => offset0 f (kForm p f .or32K)
  | 0x4c => offset0 f (xForm p f .or32X)
  | 0x54 => offset0 f (kForm p f .and32K)
  | 0x5c => offset0 f (xForm p f .and32X)
  | 0x64 => offset0 f (kForm p f .lsh32K)
  | 0x6c => offset0 f (xForm p f .lsh32X)
  | 0x74 => offset0 f (kForm p f .rsh32K)
  | 0x7c => offset0 f (xForm p f .rsh32X)
  | 0x84 => offset0 f (negForm p f .neg32)
  | 0x8c => .error .unusedField
  | 0x94 => offset01 f (kForm p f .mod32K) (kForm p f .smod32K)
  | 0x9c => offset01 f (xForm p f .mod32X) (xForm p f .smod32X)
  | 0xa4 => offset0 f (kForm p f .xor32K)
  | 0xac => offset0 f (xForm p f .xor32X)
  | 0xb4 =>
    offsetMov f (kForm p f .mov32K)
      (p.lax (kForm p f .movsx32K8))
      (p.lax (kForm p f .movsx32K16))
      (p.lax (kForm p f .movsx32K32))
  | 0xbc =>
    offsetMov f (xForm p f .mov32X) (xForm p f .movsx32X8) (xForm p f .movsx32X16) (p.lax (xForm p f .movsx32X32))
  | 0xc4 => offset0 f (kForm p f .arsh32K)
  | 0xcc => offset0 f (xForm p f .arsh32X)
  | 0xd4 => swapWidth f (endForm p f .tole16) (endForm p f .tole32) (endForm p f .tole64)
  | 0xdc => swapWidth f (endForm p f .tobe16) (endForm p f .tobe32) (endForm p f .tobe64)
  | _ => .error .noInstruction

/-- Class ALU64 (R74); 0xdf is R155. -/
def decodeAlu64 (p : Params) (f : Fields) : Decoded :=
  match f.opcode.toNat with
  | 0x07 => offset0 f (kForm p f .add64K)
  | 0x0f => offset0 f (xForm p f .add64X)
  | 0x17 => offset0 f (kForm p f .sub64K)
  | 0x1f => offset0 f (xForm p f .sub64X)
  | 0x27 => offset0 f (kForm p f .mul64K)
  | 0x2f => offset0 f (xForm p f .mul64X)
  | 0x37 => offset01 f (kForm p f .div64K) (kForm p f .sdiv64K)
  | 0x3f => offset01 f (xForm p f .div64X) (xForm p f .sdiv64X)
  | 0x47 => offset0 f (kForm p f .or64K)
  | 0x4f => offset0 f (xForm p f .or64X)
  | 0x57 => offset0 f (kForm p f .and64K)
  | 0x5f => offset0 f (xForm p f .and64X)
  | 0x67 => offset0 f (kForm p f .lsh64K)
  | 0x6f => offset0 f (xForm p f .lsh64X)
  | 0x77 => offset0 f (kForm p f .rsh64K)
  | 0x7f => offset0 f (xForm p f .rsh64X)
  | 0x87 => offset0 f (negForm p f .neg64)
  | 0x8f => .error .unusedField
  | 0x97 => offset01 f (kForm p f .mod64K) (kForm p f .smod64K)
  | 0x9f => offset01 f (xForm p f .mod64X) (xForm p f .smod64X)
  | 0xa7 => offset0 f (kForm p f .xor64K)
  | 0xaf => offset0 f (xForm p f .xor64X)
  | 0xb7 =>
    offsetMov f (kForm p f .mov64K)
      (p.lax (kForm p f .movsx64K8))
      (p.lax (kForm p f .movsx64K16))
      (p.lax (kForm p f .movsx64K32))
  | 0xbf => offsetMov f (xForm p f .mov64X) (xForm p f .movsx64X8) (xForm p f .movsx64X16) (xForm p f .movsx64X32)
  | 0xc7 => offset0 f (kForm p f .arsh64K)
  | 0xcf => offset0 f (xForm p f .arsh64X)
  | 0xd7 => swapWidth f (endForm p f .bswap16) (endForm p f .bswap32) (endForm p f .bswap64)
  | 0xdf => .error .onlyNote
  | _ => .error .noInstruction

/-- JA, {JA, K, JMP} (R164): `src_reg` 0 by the table, `dst_reg` and `imm` unused. -/
def decodeJa (p : Params) (f : Fields) : Decoded :=
  if f.src == 0 then p.unused (f.dst == 0 && f.imm == 0) (.ok (.ja f.off)) else .error .srcReg

/-- JA32, {JA, K, JMP32} (R165): `dst_reg` and `offset` unused. -/
def decodeJa32 (p : Params) (f : Fields) : Decoded :=
  if f.src == 0 then p.unused (f.dst == 0 && f.off == 0) (.ok (.ja32 f.imm)) else .error .srcReg

/-- CALL, {CALL, K, JMP} (R78, R200): `src_reg` is the form, `dst_reg` and `offset` unused. -/
def decodeCall (p : Params) (f : Fields) : Decoded :=
  match f.src.toNat with
  | 0 => p.unused (f.dst == 0 && f.off == 0) (.ok (.callHelper f.imm))
  | 1 => p.unused (f.dst == 0 && f.off == 0) (.ok (.callLocal f.imm))
  | 2 => p.unused (f.dst == 0 && f.off == 0) (.ok (.callBtf f.imm))
  | _ => .error .callForm

/-- EXIT, {EXIT, K, JMP} (R200, R205): every other field unused. -/
def decodeExit (p : Params) (f : Fields) : Decoded :=
  if f.src == 0 then p.unused (f.dst == 0 && f.off == 0 && f.imm == 0) (.ok .exit) else .error .srcReg

/-- Class JMP (R75). -/
def decodeJmp (p : Params) (f : Fields) : Decoded :=
  match f.opcode.toNat with
  | 0x05 => decodeJa p f
  | 0x0d => .error .onlyNote
  | 0x15 => jumpKForm f .jeqK
  | 0x1d => jumpXForm p f .jeqX
  | 0x25 => jumpKForm f .jgtK
  | 0x2d => jumpXForm p f .jgtX
  | 0x35 => jumpKForm f .jgeK
  | 0x3d => jumpXForm p f .jgeX
  | 0x45 => jumpKForm f .jsetK
  | 0x4d => jumpXForm p f .jsetX
  | 0x55 => jumpKForm f .jneK
  | 0x5d => jumpXForm p f .jneX
  | 0x65 => jumpKForm f .jsgtK
  | 0x6d => jumpXForm p f .jsgtX
  | 0x75 => jumpKForm f .jsgeK
  | 0x7d => jumpXForm p f .jsgeX
  | 0x85 => decodeCall p f
  | 0x8d => .error .onlyNote
  | 0x95 => decodeExit p f
  | 0x9d => .error .onlyNote
  | 0xa5 => jumpKForm f .jltK
  | 0xad => jumpXForm p f .jltX
  | 0xb5 => jumpKForm f .jleK
  | 0xbd => jumpXForm p f .jleX
  | 0xc5 => jumpKForm f .jsltK
  | 0xcd => jumpXForm p f .jsltX
  | 0xd5 => jumpKForm f .jsleK
  | 0xdd => jumpXForm p f .jsleX
  | _ => .error .noInstruction

/-- Class JMP32 (R75). -/
def decodeJmp32 (p : Params) (f : Fields) : Decoded :=
  match f.opcode.toNat with
  | 0x06 => decodeJa32 p f
  | 0x0e => .error .onlyNote
  | 0x16 => jumpKForm f .jeq32K
  | 0x1e => jumpXForm p f .jeq32X
  | 0x26 => jumpKForm f .jgt32K
  | 0x2e => jumpXForm p f .jgt32X
  | 0x36 => jumpKForm f .jge32K
  | 0x3e => jumpXForm p f .jge32X
  | 0x46 => jumpKForm f .jset32K
  | 0x4e => jumpXForm p f .jset32X
  | 0x56 => jumpKForm f .jne32K
  | 0x5e => jumpXForm p f .jne32X
  | 0x66 => jumpKForm f .jsgt32K
  | 0x6e => jumpXForm p f .jsgt32X
  | 0x76 => jumpKForm f .jsge32K
  | 0x7e => jumpXForm p f .jsge32X
  | 0x86 => .error .onlyNote
  | 0x8e => .error .onlyNote
  | 0x96 => .error .onlyNote
  | 0x9e => .error .onlyNote
  | 0xa6 => jumpKForm f .jlt32K
  | 0xae => jumpXForm p f .jlt32X
  | 0xb6 => jumpKForm f .jle32K
  | 0xbe => jumpXForm p f .jle32X
  | 0xc6 => jumpKForm f .jslt32K
  | 0xce => jumpXForm p f .jslt32X
  | 0xd6 => jumpKForm f .jsle32K
  | 0xde => jumpXForm p f .jsle32X
  | _ => .error .noInstruction

/-- {ATOMIC, W, STX}: `imm` selects the operation (R240). -/
def decodeAtomic32 (f : Fields) : Decoded :=
  match f.imm.toNat with
  | 0x00 => atomicForm f .atomic32Add
  | 0x40 => atomicForm f .atomic32Or
  | 0x50 => atomicForm f .atomic32And
  | 0xa0 => atomicForm f .atomic32Xor
  | 0x01 => fetchForm f .atomic32FetchAdd
  | 0x41 => fetchForm f .atomic32FetchOr
  | 0x51 => fetchForm f .atomic32FetchAnd
  | 0xa1 => fetchForm f .atomic32FetchXor
  | 0xe1 => fetchForm f .atomic32Xchg
  | 0xf1 => atomicForm f .atomic32Cmpxchg
  | _ => .error .atomicOperation

/-- {ATOMIC, DW, STX}: `imm` selects the operation (R240). -/
def decodeAtomic64 (f : Fields) : Decoded :=
  match f.imm.toNat with
  | 0x00 => atomicForm f .atomic64Add
  | 0x40 => atomicForm f .atomic64Or
  | 0x50 => atomicForm f .atomic64And
  | 0xa0 => atomicForm f .atomic64Xor
  | 0x01 => fetchForm f .atomic64FetchAdd
  | 0x41 => fetchForm f .atomic64FetchOr
  | 0x51 => fetchForm f .atomic64FetchAnd
  | 0xa1 => fetchForm f .atomic64FetchXor
  | 0xe1 => fetchForm f .atomic64Xchg
  | 0xf1 => atomicForm f .atomic64Cmpxchg
  | _ => .error .atomicOperation

/-- Class LDX: MEM and MEMSX (R224 to R227, R230, R236). -/
def decodeLdx (p : Params) (f : Fields) : Decoded :=
  match f.opcode.toNat with
  | 0x61 => ldxForm p f .ldxw
  | 0x69 => ldxForm p f .ldxh
  | 0x71 => ldxForm p f .ldxb
  | 0x79 => ldxForm p f .ldxdw
  | 0x81 => ldxForm p f .ldxsw
  | 0x89 => ldxForm p f .ldxsh
  | 0x91 => ldxForm p f .ldxsb
  | _ => .error .noInstruction

/-- Class ST: MEM (R228, R236). -/
def decodeSt (p : Params) (f : Fields) : Decoded :=
  match f.opcode.toNat with
  | 0x62 => stForm p f .stw
  | 0x6a => stForm p f .sth
  | 0x72 => stForm p f .stb
  | 0x7a => stForm p f .stdw
  | _ => .error .noInstruction

/-- Class STX: MEM and ATOMIC (R229, R236, R240). -/
def decodeStx (p : Params) (f : Fields) : Decoded :=
  match f.opcode.toNat with
  | 0x63 => stxForm p f .stxw
  | 0x6b => stxForm p f .stxh
  | 0x73 => stxForm p f .stxb
  | 0x7b => stxForm p f .stxdw
  | 0xc3 => decodeAtomic32 f
  | 0xdb => decodeAtomic64 f
  | _ => .error .noInstruction

/-- Everything above the opcode byte of a canonical word. -/
def Fields.rest (f : Fields) : BitVec 56 := f.imm ++ f.off ++ f.src ++ f.dst

/-- Class LD but for 0x18: the legacy packet loads, not decoded into operands (R235, R236). -/
def decodeLd (f : Fields) : Decoded :=
  match f.opcode.toNat with
  | 0x20 => .ok (.ldabsw f.rest)
  | 0x28 => .ok (.ldabsh f.rest)
  | 0x30 => .ok (.ldabsb f.rest)
  | 0x40 => .ok (.ldindw f.rest)
  | 0x48 => .ok (.ldindh f.rest)
  | 0x50 => .ok (.ldindb f.rest)
  | _ => .error .noInstruction

/-- The instruction of a basic slot, by its class (R64, R65). -/
def decodeBasic (p : Params) (f : Fields) : Decoded :=
  match (f.opcode.extractLsb' 0 3).toNat with
  | 0 => decodeLd f
  | 1 => decodeLdx p f
  | 2 => decodeSt p f
  | 3 => decodeStx p f
  | 4 => decodeAlu p f
  | 5 => decodeJmp p f
  | 6 => decodeJmp32 p f
  | _ => decodeAlu64 p f

/-- `LD IMM DW` by its subtype (R232 to R234). -/
def lddwOf (subtype : Nibble) (d : Reg) (imm nextImm : Imm) : Decoded :=
  match subtype.toNat with
  | 0 => .ok (.lddw d imm nextImm)
  | 1 => .ok (.lddwSubtype1 d imm nextImm)
  | 2 => .ok (.lddwSubtype2 d imm nextImm)
  | 3 => .ok (.lddwSubtype3 d imm nextImm)
  | 4 => .ok (.lddwSubtype4 d imm nextImm)
  | 5 => .ok (.lddwSubtype5 d imm nextImm)
  | 6 => .ok (.lddwSubtype6 d imm nextImm)
  | _ => .error .lddwSubtype

/-- The extended instruction of opcode 0x18 (R62, R63, R87, R232): `offset` and `reserved` are zero. -/
def decodeExtended (e : Endian) (f : Fields) (second : Slot) : Decoded :=
  if f.off == 0 then
    if second.reserved e == 0 then (writtenReg f.dst).bind fun d => lddwOf f.src d f.imm (second.nextImm e)
    else .error .reservedField
  else .error .offset

/-- The instruction at the head of the bytes, and the slots after it; or why there is none. -/
def decode (p : Params) (slots : List Slot) : Except DecodeError (Instr × List Slot) :=
  match slots with
  | [] => .error .truncated
  | s :: rest =>
    let f := s.fields p.hostEndian
    if p.ldstProfile == .refuse && (f.opcode.extractLsb' 0 3).toNat < 4 then .error .loadStoreClass
    else if s.isExtended then
      match rest with
      | [] => .error .truncated
      | s2 :: rest2 => (decodeExtended p.hostEndian f s2).map fun i => (i, rest2)
    else (decodeBasic p f).map fun i => (i, rest)

/-! ### The encoder -/

/-- Fields of an arithmetic K-form (R74, R76, R83). -/
def kFields (op : BitVec 8) (off : Off) (dst : Reg) (imm : Imm) : Fields := ⟨op, dst.nibble, 0, off, imm⟩

/-- Fields of an arithmetic X-form (R74, R76, R83). -/
def xFields (op : BitVec 8) (off : Off) (dst src : Reg) : Fields := ⟨op, dst.nibble, src.nibble, off, 0⟩

/-- Fields of a memory instruction with two registers, or of a conditional jump's X-form: `imm` is a selector or 0. -/
def mFields (op : BitVec 8) (dst src : Reg) (off : Off) (imm : Imm) : Fields :=
  ⟨op, dst.nibble, src.nibble, off, imm⟩

/-- Fields of the first slot of `LD IMM DW` (R232): `src_reg` is the subtype. -/
def lddwFields (subtype : Nibble) (dst : Reg) (imm : Imm) : Fields := ⟨0x18, dst.nibble, subtype, 0, imm⟩

/-- Fields of an instruction the spec does not decode into operands (R235). -/
def legacyFields (op : BitVec 8) (rest : BitVec 56) : Fields :=
  ⟨op, rest.extractLsb' 0 4, rest.extractLsb' 4 4, rest.extractLsb' 8 16, rest.extractLsb' 24 32⟩

/-- The fields of an instruction's first (or only) slot, every unused field zero (R74 to R78, R83, R224 to R240). -/
def Instr.fields : Instr → Fields
  | .add64K dst imm => kFields 0x07 0 dst imm
  | .add64X dst src => xFields 0x0f 0 dst src
  | .add32K dst imm => kFields 0x04 0 dst imm
  | .add32X dst src => xFields 0x0c 0 dst src
  | .sub64K dst imm => kFields 0x17 0 dst imm
  | .sub64X dst src => xFields 0x1f 0 dst src
  | .sub32K dst imm => kFields 0x14 0 dst imm
  | .sub32X dst src => xFields 0x1c 0 dst src
  | .mul64K dst imm => kFields 0x27 0 dst imm
  | .mul64X dst src => xFields 0x2f 0 dst src
  | .mul32K dst imm => kFields 0x24 0 dst imm
  | .mul32X dst src => xFields 0x2c 0 dst src
  | .div64K dst imm => kFields 0x37 0 dst imm
  | .div64X dst src => xFields 0x3f 0 dst src
  | .div32K dst imm => kFields 0x34 0 dst imm
  | .div32X dst src => xFields 0x3c 0 dst src
  | .sdiv64K dst imm => kFields 0x37 1 dst imm
  | .sdiv64X dst src => xFields 0x3f 1 dst src
  | .sdiv32K dst imm => kFields 0x34 1 dst imm
  | .sdiv32X dst src => xFields 0x3c 1 dst src
  | .or64K dst imm => kFields 0x47 0 dst imm
  | .or64X dst src => xFields 0x4f 0 dst src
  | .or32K dst imm => kFields 0x44 0 dst imm
  | .or32X dst src => xFields 0x4c 0 dst src
  | .and64K dst imm => kFields 0x57 0 dst imm
  | .and64X dst src => xFields 0x5f 0 dst src
  | .and32K dst imm => kFields 0x54 0 dst imm
  | .and32X dst src => xFields 0x5c 0 dst src
  | .lsh64K dst imm => kFields 0x67 0 dst imm
  | .lsh64X dst src => xFields 0x6f 0 dst src
  | .lsh32K dst imm => kFields 0x64 0 dst imm
  | .lsh32X dst src => xFields 0x6c 0 dst src
  | .rsh64K dst imm => kFields 0x77 0 dst imm
  | .rsh64X dst src => xFields 0x7f 0 dst src
  | .rsh32K dst imm => kFields 0x74 0 dst imm
  | .rsh32X dst src => xFields 0x7c 0 dst src
  | .mod64K dst imm => kFields 0x97 0 dst imm
  | .mod64X dst src => xFields 0x9f 0 dst src
  | .mod32K dst imm => kFields 0x94 0 dst imm
  | .mod32X dst src => xFields 0x9c 0 dst src
  | .smod64K dst imm => kFields 0x97 1 dst imm
  | .smod64X dst src => xFields 0x9f 1 dst src
  | .smod32K dst imm => kFields 0x94 1 dst imm
  | .smod32X dst src => xFields 0x9c 1 dst src
  | .xor64K dst imm => kFields 0xa7 0 dst imm
  | .xor64X dst src => xFields 0xaf 0 dst src
  | .xor32K dst imm => kFields 0xa4 0 dst imm
  | .xor32X dst src => xFields 0xac 0 dst src
  | .mov64K dst imm => kFields 0xb7 0 dst imm
  | .mov64X dst src => xFields 0xbf 0 dst src
  | .mov32K dst imm => kFields 0xb4 0 dst imm
  | .mov32X dst src => xFields 0xbc 0 dst src
  | .arsh64K dst imm => kFields 0xc7 0 dst imm
  | .arsh64X dst src => xFields 0xcf 0 dst src
  | .arsh32K dst imm => kFields 0xc4 0 dst imm
  | .arsh32X dst src => xFields 0xcc 0 dst src
  | .neg64 dst => kFields 0x87 0 dst 0
  | .neg32 dst => kFields 0x84 0 dst 0
  | .movsx64X8 dst src => xFields 0xbf 8 dst src
  | .movsx64X16 dst src => xFields 0xbf 16 dst src
  | .movsx64X32 dst src => xFields 0xbf 32 dst src
  | .movsx64K8 dst imm => kFields 0xb7 8 dst imm
  | .movsx64K16 dst imm => kFields 0xb7 16 dst imm
  | .movsx64K32 dst imm => kFields 0xb7 32 dst imm
  | .movsx32X8 dst src => xFields 0xbc 8 dst src
  | .movsx32X16 dst src => xFields 0xbc 16 dst src
  | .movsx32X32 dst src => xFields 0xbc 32 dst src
  | .movsx32K8 dst imm => kFields 0xb4 8 dst imm
  | .movsx32K16 dst imm => kFields 0xb4 16 dst imm
  | .movsx32K32 dst imm => kFields 0xb4 32 dst imm
  | .tole16 dst => kFields 0xd4 0 dst 16
  | .tole32 dst => kFields 0xd4 0 dst 32
  | .tole64 dst => kFields 0xd4 0 dst 64
  | .tobe16 dst => kFields 0xdc 0 dst 16
  | .tobe32 dst => kFields 0xdc 0 dst 32
  | .tobe64 dst => kFields 0xdc 0 dst 64
  | .bswap16 dst => kFields 0xd7 0 dst 16
  | .bswap32 dst => kFields 0xd7 0 dst 32
  | .bswap64 dst => kFields 0xd7 0 dst 64
  | .ja off => ⟨0x05, 0, 0, off, 0⟩
  | .ja32 imm => ⟨0x06, 0, 0, 0, imm⟩
  | .jeqK dst anySrc off imm => ⟨0x15, dst.nibble, anySrc, off, imm⟩
  | .jeqX dst src off => mFields 0x1d dst src off 0
  | .jeq32K dst anySrc off imm => ⟨0x16, dst.nibble, anySrc, off, imm⟩
  | .jeq32X dst src off => mFields 0x1e dst src off 0
  | .jgtK dst anySrc off imm => ⟨0x25, dst.nibble, anySrc, off, imm⟩
  | .jgtX dst src off => mFields 0x2d dst src off 0
  | .jgt32K dst anySrc off imm => ⟨0x26, dst.nibble, anySrc, off, imm⟩
  | .jgt32X dst src off => mFields 0x2e dst src off 0
  | .jgeK dst anySrc off imm => ⟨0x35, dst.nibble, anySrc, off, imm⟩
  | .jgeX dst src off => mFields 0x3d dst src off 0
  | .jge32K dst anySrc off imm => ⟨0x36, dst.nibble, anySrc, off, imm⟩
  | .jge32X dst src off => mFields 0x3e dst src off 0
  | .jsetK dst anySrc off imm => ⟨0x45, dst.nibble, anySrc, off, imm⟩
  | .jsetX dst src off => mFields 0x4d dst src off 0
  | .jset32K dst anySrc off imm => ⟨0x46, dst.nibble, anySrc, off, imm⟩
  | .jset32X dst src off => mFields 0x4e dst src off 0
  | .jneK dst anySrc off imm => ⟨0x55, dst.nibble, anySrc, off, imm⟩
  | .jneX dst src off => mFields 0x5d dst src off 0
  | .jne32K dst anySrc off imm => ⟨0x56, dst.nibble, anySrc, off, imm⟩
  | .jne32X dst src off => mFields 0x5e dst src off 0
  | .jsgtK dst anySrc off imm => ⟨0x65, dst.nibble, anySrc, off, imm⟩
  | .jsgtX dst src off => mFields 0x6d dst src off 0
  | .jsgt32K dst anySrc off imm => ⟨0x66, dst.nibble, anySrc, off, imm⟩
  | .jsgt32X dst src off => mFields 0x6e dst src off 0
  | .jsgeK dst anySrc off imm => ⟨0x75, dst.nibble, anySrc, off, imm⟩
  | .jsgeX dst src off => mFields 0x7d dst src off 0
  | .jsge32K dst anySrc off imm => ⟨0x76, dst.nibble, anySrc, off, imm⟩
  | .jsge32X dst src off => mFields 0x7e dst src off 0
  | .jltK dst anySrc off imm => ⟨0xa5, dst.nibble, anySrc, off, imm⟩
  | .jltX dst src off => mFields 0xad dst src off 0
  | .jlt32K dst anySrc off imm => ⟨0xa6, dst.nibble, anySrc, off, imm⟩
  | .jlt32X dst src off => mFields 0xae dst src off 0
  | .jleK dst anySrc off imm => ⟨0xb5, dst.nibble, anySrc, off, imm⟩
  | .jleX dst src off => mFields 0xbd dst src off 0
  | .jle32K dst anySrc off imm => ⟨0xb6, dst.nibble, anySrc, off, imm⟩
  | .jle32X dst src off => mFields 0xbe dst src off 0
  | .jsltK dst anySrc off imm => ⟨0xc5, dst.nibble, anySrc, off, imm⟩
  | .jsltX dst src off => mFields 0xcd dst src off 0
  | .jslt32K dst anySrc off imm => ⟨0xc6, dst.nibble, anySrc, off, imm⟩
  | .jslt32X dst src off => mFields 0xce dst src off 0
  | .jsleK dst anySrc off imm => ⟨0xd5, dst.nibble, anySrc, off, imm⟩
  | .jsleX dst src off => mFields 0xdd dst src off 0
  | .jsle32K dst anySrc off imm => ⟨0xd6, dst.nibble, anySrc, off, imm⟩
  | .jsle32X dst src off => mFields 0xde dst src off 0
  | .callHelper id => ⟨0x85, 0, 0, 0, id⟩
  | .callLocal imm => ⟨0x85, 0, 1, 0, imm⟩
  | .callBtf id => ⟨0x85, 0, 2, 0, id⟩
  | .exit => ⟨0x95, 0, 0, 0, 0⟩
  | .ldxw dst src off => mFields 0x61 dst src off 0
  | .ldxh dst src off => mFields 0x69 dst src off 0
  | .ldxb dst src off => mFields 0x71 dst src off 0
  | .ldxdw dst src off => mFields 0x79 dst src off 0
  | .stw dst off imm => ⟨0x62, dst.nibble, 0, off, imm⟩
  | .sth dst off imm => ⟨0x6a, dst.nibble, 0, off, imm⟩
  | .stb dst off imm => ⟨0x72, dst.nibble, 0, off, imm⟩
  | .stdw dst off imm => ⟨0x7a, dst.nibble, 0, off, imm⟩
  | .stxw dst src off => mFields 0x63 dst src off 0
  | .stxh dst src off => mFields 0x6b dst src off 0
  | .stxb dst src off => mFields 0x73 dst src off 0
  | .stxdw dst src off => mFields 0x7b dst src off 0
  | .ldxsw dst src off => mFields 0x81 dst src off 0
  | .ldxsh dst src off => mFields 0x89 dst src off 0
  | .ldxsb dst src off => mFields 0x91 dst src off 0
  | .lddw dst imm _ => lddwFields 0 dst imm
  | .lddwSubtype1 dst imm _ => lddwFields 1 dst imm
  | .lddwSubtype2 dst imm _ => lddwFields 2 dst imm
  | .lddwSubtype3 dst imm _ => lddwFields 3 dst imm
  | .lddwSubtype4 dst imm _ => lddwFields 4 dst imm
  | .lddwSubtype5 dst imm _ => lddwFields 5 dst imm
  | .lddwSubtype6 dst imm _ => lddwFields 6 dst imm
  | .atomic32Add dst src off => mFields 0xc3 dst src off 0x00
  | .atomic32Or dst src off => mFields 0xc3 dst src off 0x40
  | .atomic32And dst src off => mFields 0xc3 dst src off 0x50
  | .atomic32Xor dst src off => mFields 0xc3 dst src off 0xa0
  | .atomic32FetchAdd dst src off => mFields 0xc3 dst src off 0x01
  | .atomic32FetchOr dst src off => mFields 0xc3 dst src off 0x41
  | .atomic32FetchAnd dst src off => mFields 0xc3 dst src off 0x51
  | .atomic32FetchXor dst src off => mFields 0xc3 dst src off 0xa1
  | .atomic32Xchg dst src off => mFields 0xc3 dst src off 0xe1
  | .atomic32Cmpxchg dst src off => mFields 0xc3 dst src off 0xf1
  | .atomic64Add dst src off => mFields 0xdb dst src off 0x00
  | .atomic64Or dst src off => mFields 0xdb dst src off 0x40
  | .atomic64And dst src off => mFields 0xdb dst src off 0x50
  | .atomic64Xor dst src off => mFields 0xdb dst src off 0xa0
  | .atomic64FetchAdd dst src off => mFields 0xdb dst src off 0x01
  | .atomic64FetchOr dst src off => mFields 0xdb dst src off 0x41
  | .atomic64FetchAnd dst src off => mFields 0xdb dst src off 0x51
  | .atomic64FetchXor dst src off => mFields 0xdb dst src off 0xa1
  | .atomic64Xchg dst src off => mFields 0xdb dst src off 0xe1
  | .atomic64Cmpxchg dst src off => mFields 0xdb dst src off 0xf1
  | .ldabsw rest => legacyFields 0x20 rest
  | .ldabsh rest => legacyFields 0x28 rest
  | .ldabsb rest => legacyFields 0x30 rest
  | .ldindw rest => legacyFields 0x40 rest
  | .ldindh rest => legacyFields 0x48 rest
  | .ldindb rest => legacyFields 0x50 rest

/-- The `next_imm` field of an extended instruction; a basic instruction has none (R60, R69, R87). -/
def Instr.nextImm : Instr → Option Imm
  | .lddw _ _ nextImm | .lddwSubtype1 _ _ nextImm | .lddwSubtype2 _ _ nextImm | .lddwSubtype3 _ _ nextImm
  | .lddwSubtype4 _ _ nextImm | .lddwSubtype5 _ _ nextImm | .lddwSubtype6 _ _ nextImm => some nextImm
  | .add64K _ _ | .add64X _ _ | .add32K _ _ | .add32X _ _ | .sub64K _ _ | .sub64X _ _ | .sub32K _ _ | .sub32X _ _
  | .mul64K _ _ | .mul64X _ _ | .mul32K _ _ | .mul32X _ _ | .div64K _ _ | .div64X _ _ | .div32K _ _ | .div32X _ _
  | .sdiv64K _ _ | .sdiv64X _ _ | .sdiv32K _ _ | .sdiv32X _ _ | .or64K _ _ | .or64X _ _ | .or32K _ _ | .or32X _ _
  | .and64K _ _ | .and64X _ _ | .and32K _ _ | .and32X _ _ | .lsh64K _ _ | .lsh64X _ _ | .lsh32K _ _ | .lsh32X _ _
  | .rsh64K _ _ | .rsh64X _ _ | .rsh32K _ _ | .rsh32X _ _ | .mod64K _ _ | .mod64X _ _ | .mod32K _ _ | .mod32X _ _
  | .smod64K _ _ | .smod64X _ _ | .smod32K _ _ | .smod32X _ _ | .xor64K _ _ | .xor64X _ _ | .xor32K _ _
  | .xor32X _ _ | .mov64K _ _ | .mov64X _ _ | .mov32K _ _ | .mov32X _ _ | .arsh64K _ _ | .arsh64X _ _
  | .arsh32K _ _ | .arsh32X _ _ | .neg64 _ | .neg32 _ | .movsx64X8 _ _ | .movsx64X16 _ _ | .movsx64X32 _ _
  | .movsx64K8 _ _ | .movsx64K16 _ _ | .movsx64K32 _ _ | .movsx32X8 _ _ | .movsx32X16 _ _ | .movsx32X32 _ _
  | .movsx32K8 _ _ | .movsx32K16 _ _ | .movsx32K32 _ _ | .tole16 _ | .tole32 _ | .tole64 _ | .tobe16 _ | .tobe32 _
  | .tobe64 _ | .bswap16 _ | .bswap32 _ | .bswap64 _ | .ja _ | .ja32 _ | .jeqK _ _ _ _ | .jeqX _ _ _
  | .jeq32K _ _ _ _ | .jeq32X _ _ _ | .jgtK _ _ _ _ | .jgtX _ _ _ | .jgt32K _ _ _ _ | .jgt32X _ _ _ | .jgeK _ _ _ _
  | .jgeX _ _ _ | .jge32K _ _ _ _ | .jge32X _ _ _ | .jsetK _ _ _ _ | .jsetX _ _ _ | .jset32K _ _ _ _
  | .jset32X _ _ _ | .jneK _ _ _ _ | .jneX _ _ _ | .jne32K _ _ _ _ | .jne32X _ _ _ | .jsgtK _ _ _ _ | .jsgtX _ _ _
  | .jsgt32K _ _ _ _ | .jsgt32X _ _ _ | .jsgeK _ _ _ _ | .jsgeX _ _ _ | .jsge32K _ _ _ _ | .jsge32X _ _ _
  | .jltK _ _ _ _ | .jltX _ _ _ | .jlt32K _ _ _ _ | .jlt32X _ _ _ | .jleK _ _ _ _ | .jleX _ _ _ | .jle32K _ _ _ _
  | .jle32X _ _ _ | .jsltK _ _ _ _ | .jsltX _ _ _ | .jslt32K _ _ _ _ | .jslt32X _ _ _ | .jsleK _ _ _ _
  | .jsleX _ _ _ | .jsle32K _ _ _ _ | .jsle32X _ _ _ | .callHelper _ | .callLocal _ | .callBtf _ | .exit
  | .ldxw _ _ _ | .ldxh _ _ _ | .ldxb _ _ _ | .ldxdw _ _ _ | .stw _ _ _ | .sth _ _ _ | .stb _ _ _ | .stdw _ _ _
  | .stxw _ _ _ | .stxh _ _ _ | .stxb _ _ _ | .stxdw _ _ _ | .ldxsw _ _ _ | .ldxsh _ _ _ | .ldxsb _ _ _
  | .atomic32Add _ _ _ | .atomic32Or _ _ _ | .atomic32And _ _ _ | .atomic32Xor _ _ _ | .atomic32FetchAdd _ _ _
  | .atomic32FetchOr _ _ _ | .atomic32FetchAnd _ _ _ | .atomic32FetchXor _ _ _ | .atomic32Xchg _ _ _
  | .atomic32Cmpxchg _ _ _ | .atomic64Add _ _ _ | .atomic64Or _ _ _ | .atomic64And _ _ _ | .atomic64Xor _ _ _
  | .atomic64FetchAdd _ _ _ | .atomic64FetchOr _ _ _ | .atomic64FetchAnd _ _ _ | .atomic64FetchXor _ _ _
  | .atomic64Xchg _ _ _ | .atomic64Cmpxchg _ _ _ | .ldabsw _ | .ldabsh _ | .ldabsb _ | .ldindw _ | .ldindh _
  | .ldindb _ => none

/-- How many slots an instruction fills (R60, R87). -/
def Instr.slots (i : Instr) : Nat := if i.nextImm.isSome then 2 else 1

/-- The slots of an instruction in the host's byte order (R61, R62, R70). -/
def encode (e : Endian) (i : Instr) : List Slot :=
  Slot.ofFields e i.fields ::
    match i.nextImm with
    | some n => [Slot.ofSecond e 0 n]
    | none => []

/-- The canonical words of an instruction (R70). -/
def encodeWords (i : Instr) : List (BitVec 64) :=
  i.fields.word ::
    match i.nextImm with
    | some n => [n ++ 0#32]
    | none => []

/-! ### The host's numbering of an instruction's bits -/

/-- The two slots that hold the bits `w` of an instruction as the opcode table numbers them (R92): bits 63..0 are the
canonical word `W`, bits 127..64 the second word `W2`; bits at `nbits` and above are 0. -/
def tableSlots (e : Endian) (nbits w : Nat) : List Slot :=
  [Slot.ofWord e (BitVec.ofNat 64 (w % 2 ^ nbits)), Slot.ofWord2 e (BitVec.ofNat 64 (w % 2 ^ nbits / 2 ^ 64))]

/-- The instruction the decoder reads from the bits `w`, under the parameters of the reset state. -/
def decodeTableWord (nbits w : Nat) : Option Instr :=
  match decode Params.reset (tableSlots Params.reset.hostEndian nbits w) with
  | .ok (i, _) => some i
  | .error _ => none

end Sys2Proof
end

