-- ==== Sys2Proof/Machine/State.lean ====
section
/-! DEFINITION. The state of the machine (10_state.md): every piece of state the spec names, and one field of the
model's own that says so. Plain data. There are no flags (R29), no control or status registers (R30), no other register
files (R31), no modes and no interrupt state (R266, R272): nothing of those stands here. -/

namespace Sys2Proof.Machine

/-- What a register holds (R26): a 64-bit value, or nothing. "Unwritten" is the spec's own state, not a value that is
missing: CALL and EXIT make registers unwritten too (R201, R202, R205). Log entry 1. -/
inductive RegVal where
  | unwritten
  | written (v : Word)
deriving DecidableEq, Repr

/-- The register file R0 to R10 (R20). -/
structure Regs where
  r0 : RegVal
  r1 : RegVal
  r2 : RegVal
  r3 : RegVal
  r4 : RegVal
  r5 : RegVal
  r6 : RegVal
  r7 : RegVal
  r8 : RegVal
  r9 : RegVal
  r10 : RegVal
deriving DecidableEq, Repr

/-- One frame of the call stack (R32): the return slot and the caller's R6 to R10. -/
structure Frame where
  ret : Nat
  r6 : RegVal
  r7 : RegVal
  r8 : RegVal
  r9 : RegVal
  r10 : RegVal
deriving DecidableEq, Repr

/-- Why an access to data memory is refused by the admission test (R231, R44, R260). -/
inductive MemReason where
  /-- not wholly inside one admitted range -/
  | region
  /-- inside admitted ranges, none of which gives the permission -/
  | permission
  /-- not a multiple of the access size while `ALLOW_MISALIGNED` is false -/
  | misaligned
deriving DecidableEq, Repr

/-- The faults of R260 with the information each records. They are architectural: a fault is written into the fault
record of the state (R35), it is not an outcome of the model. -/
inductive FaultRecord where
  | illegalInstruction (pc : Nat) (w : BitVec 64)
  | badJumpTarget (pc : Nat) (target : Int)
  | uninitRegister (r : Reg) (pc : Nat)
  | callDepthExceeded (pc : Nat)
  | unknownHelper (pc : Nat) (id : Imm)
  | memoryFault (ea : Word) (n : Nat) (reason : MemReason)
  /-- A helper's own fault (R201, R260). R260 says only "the helper's" of what it records; that it is the slot of the CALL,
  the ID and a number, and not which map the ID is of, is the model's, DESIGN CHOICE, log entry 27. -/
  | helperFault (pc : Nat) (id : Imm) (code : Nat)
deriving DecidableEq, Repr

/-- Data memory (R34, R40): the bytes that something has set, by address, addresses strictly rising and below 2^64. An
address that is not listed has no entry that could equal its value: it holds an unspecified launch byte (R36, R291),
read as the free value `Config.launchByte`. -/
abbrev Memory := List Host.Cell

/-- The whole state of a run. -/
structure State where
  /-- the parameters of the run (R5); no instruction changes them -/
  params : Params
  /-- the program text `PROG`, its length `LEN` (R33); no instruction reads or changes it -/
  prog : List Slot
  /-- the slot index of the instruction to execute (R27); no width, never wraps -/
  pc : Nat
  /-- R0 to R10 (R20, R26) -/
  regs : Regs
  /-- the call stack, newest frame first (R32) -/
  stack : List Frame
  /-- the fault record: none, or one fault (R35) -/
  fault : Option FaultRecord
  /-- the result the host receives, once the run has ended (R37, R206) -/
  result : Option Word
  /-- data memory (R34, R40) -/
  mem : Memory
  /-- the MODEL's own: how many free values have been drawn (log entries 10, 11) -/
  draws : Nat
deriving DecidableEq, Repr

/-- Why a step does not exist. The faults of the spec are not here: they are `FaultRecord`, and raising one is a next
state. -/
inductive Fault where
  /-- Raised by `step` on a state whose run is over: EXIT ran with an empty call stack (R206, R296: "no further
  step"). Safe: the spec gives no step either. -/
  | runEnded
  /-- Raised by `step` on a state whose fault record is set (R35: "no instruction executes after it"). Safe. -/
  | runFaulted (f : FaultRecord)
  /-- Raised by a CALL of a helper whose relation has no result on these arguments (R201: "have no result (stuck)").
  Safe: the spec gives no step either. -/
  | helperStuck
deriving DecidableEq, Repr

/-- What the model refuses. -/
inductive Refusal where
  /-- Raised by `exec` for an instruction without a meaning yet; no instruction is refused so. Safe. -/
  | notModelled (mnemonic : String)
  /-- Raised by `step` and `launch` at an opcode of class LD, LDX, ST, STX under `LDST_PROFILE = refuse` (R88, R223,
  R262: "a refusal, not ... this fault"). Safe. -/
  | loadStoreClass
  /-- Raised by the legacy packet loads and by `launch` of a program that holds one (R235: "no semantics: refused even
  under `supplement`"). Safe. -/
  | legacyPacketLoad
  /-- Raised by `launch` of a program with a reserved encoding (R86: "the model refuses it"). Safe. -/
  | illFormedProgram
deriving DecidableEq, Repr

/-- What a meaning answers. -/
abbrev Out := Host.Outcome State Fault Refusal

/-- R36, R290: every register unwritten but R1 and R10, which the host writes. The two values are those of the spec's
programs (95_test_vectors.md part 3), DESIGN CHOICE, log entry 2. -/
def Regs.entry : Regs where
  r0 := .unwritten
  r1 := .written 0x1000
  r2 := .unwritten
  r3 := .unwritten
  r4 := .unwritten
  r5 := .unwritten
  r6 := .unwritten
  r7 := .unwritten
  r8 := .unwritten
  r9 := .unwritten
  r10 := .written 0x2000

/-- The state at program entry (R36, R290) with no program placed: `pc` 0, call stack empty, no fault, nothing of data
memory set. The parameter values are `Params.reset`; the program comes from outside (R292, log entry 5). -/
def State.reset : State where
  params := Params.reset
  prog := []
  pc := 0
  regs := Regs.entry
  stack := []
  fault := none
  result := none
  mem := []
  draws := 0

end Sys2Proof.Machine
end

