-- ==== Sys2Proof/Machine/Ops.lean ====
section
/-! DEFINITION. The named operations over registers, program counter, call stack, fault record and memory. Every meaning
is a few of them. An operation that can raise a fault takes what follows as a function of what it read. -/

namespace Sys2Proof.Machine

/-! ### Faults -/

/-- Raising a fault (R260, R8 "raise"): the fault record is set, and nothing else changes (R269: no state is saved, no
mode changes, control goes nowhere). The run stops in this state: `step` has no step from it (R35). There is no return
from a fault (R270). -/
def State.raise (s : State) (f : FaultRecord) : Out := .next { s with fault := some f }

/-! ### Program counter -/

/-- Whether slot `t`, counted from the first of these slots, is the second half of an extended instruction, the program
being read front to back (R86, R87); `half` says so of the first of them. -/
def secondHalfFrom (half : Bool) : List Slot → Nat → Bool
  | [], _ => false
  | _ :: _, 0 => half
  | x :: rest, t + 1 => secondHalfFrom (!half && x.isExtended) rest t

/-- R28, R188: slot `t` of the program is the second half of an extended instruction. -/
def isSecondHalf (prog : List Slot) (t : Nat) : Bool := secondHalfFrom false prog t

/-- R190, R188: a slot of the program that is not a second half. -/
def State.validSlot (s : State) (t : Nat) : Bool := decide (t < s.prog.length) && !isSecondHalf s.prog t

/-- `pc <- t` with the checks of R163: `BadJumpTarget` for a target outside the program or in the middle of an extended
instruction. Used by every instruction, the fall-through included (R190, R260, R267): what the instruction wrote before
it stays written (R269). -/
def State.goto (s : State) (t : Int) : Out :=
  if 0 ≤ t ∧ s.validSlot t.toNat = true then .next { s with pc := t.toNat } else s.raise (.badJumpTarget s.pc t)

/-- The next instruction, `n` slots on (R28). -/
def State.advance (s : State) (n : Nat) : Out := s.goto ((s.pc : Int) + (n : Int))

/-- `pc + 1 + d`, the target of a jump with displacement `d` (R80, R160). -/
def State.target (s : State) (d : Int) : Int := (s.pc : Int) + 1 + d

/-- The transition of a conditional jump once its condition is known (R163). -/
def State.branch (s : State) (taken : Bool) (d : Int) : Out :=
  if taken then s.goto (s.target d) else s.advance 1

/-! ### Registers -/

/-- What a register holds. -/
def Regs.get (g : Regs) : Reg → RegVal
  | .r0 => g.r0
  | .r1 => g.r1
  | .r2 => g.r2
  | .r3 => g.r3
  | .r4 => g.r4
  | .r5 => g.r5
  | .r6 => g.r6
  | .r7 => g.r7
  | .r8 => g.r8
  | .r9 => g.r9
  | .r10 => g.r10

/-- The register file with one register replaced. -/
def Regs.set (g : Regs) (r : Reg) (v : RegVal) : Regs :=
  match r with
  | .r0 => { g with r0 := v }
  | .r1 => { g with r1 := v }
  | .r2 => { g with r2 := v }
  | .r3 => { g with r3 := v }
  | .r4 => { g with r4 := v }
  | .r5 => { g with r5 := v }
  | .r6 => { g with r6 := v }
  | .r7 => { g with r7 := v }
  | .r8 => { g with r8 := v }
  | .r9 => { g with r9 := v }
  | .r10 => { g with r10 := v }

/-- R1 to R5 become unwritten (R201, R205, R211). -/
def Regs.dropArgs (g : Regs) : Regs :=
  { g with r1 := .unwritten, r2 := .unwritten, r3 := .unwritten, r4 := .unwritten, r5 := .unwritten }

/-- R0 and R6 to R9 become unwritten (R202). -/
def Regs.dropLocals (g : Regs) : Regs :=
  { g with r0 := .unwritten, r6 := .unwritten, r7 := .unwritten, r8 := .unwritten, r9 := .unwritten }

/-- `x[r]` (R8): the value of a register, or `UninitRegister` where nothing has written it (R26). -/
def State.withReg (s : State) (r : Reg) (k : Word → Out) : Out :=
  match s.regs.get r with
  | .written v => k v
  | .unwritten => s.raise (.uninitRegister r s.pc)

/-- The values of several registers, read in this order. -/
def State.withRegs (s : State) : List Reg → (List Word → Out) → Out
  | [], k => k []
  | r :: rest, k => s.withReg r fun v => s.withRegs rest fun vs => k (v :: vs)

/-- `x[r] <- v` (R8). -/
def State.setReg (s : State) (r : Reg) (v : Word) : State := { s with regs := s.regs.set r (.written v) }

/-! ### Bytes and byte order -/

/-- The low `n` bytes of a value, byte 0 first (R157: byte `k` is `v[8k+7:8k]`). -/
def bytesOf (n : Nat) (v : Word) : List Byte := (List.range n).map fun k => v.extractLsb' (8 * k) 8

/-- The value whose byte 0 is the first of these bytes, zero above them. -/
def wordOf : List Byte → Word
  | [] => 0
  | b :: rest => (wordOf rest <<< 8) ||| b.setWidth 64

/-- Between byte 0 first and lowest address first: the same on a little-endian host, the reverse on a big-endian one
(R41, R42). -/
def hostOrder (e : Endian) (bytes : List Byte) : List Byte :=
  match e with
  | .little => bytes
  | .big => bytes.reverse

/-! ### Data memory -/

/-- The byte listed at an address. -/
def Memory.lookup : Memory → Nat → Option Byte
  | [], _ => none
  | (b, v) :: rest, a => if a = b then some v else Memory.lookup rest a

/-- Set the byte at an address, keeping addresses rising. -/
def Memory.store : Memory → Nat → Byte → Memory
  | [], a, v => [(a, v)]
  | (b, w) :: rest, a, v =>
    if a < b then (a, v) :: (b, w) :: rest
    else if a = b then (a, v) :: rest
    else (b, w) :: Memory.store rest a v

/-- Set consecutive bytes, in ascending address order (R44, R48). -/
def Memory.storeBytes (m : Memory) (a : Nat) : List Byte → Memory
  | [] => m
  | b :: rest => Memory.storeBytes (Memory.store m a b) (a + 1) rest

/-- Set a list of bytes, each at its own address. -/
def Memory.storeCells (m : Memory) : List Host.Cell → Memory
  | [] => m
  | (a, v) :: rest => Memory.storeCells (Memory.store m a v) rest

/-- Addresses from `lo` on, strictly rising, below 2^64. -/
def Memory.risingFrom (lo : Nat) : Memory → Bool
  | [] => true
  | (a, _) :: rest => decide (lo ≤ a) && decide (a < 2 ^ 64) && Memory.risingFrom (a + 1) rest

/-- The canonical form of memory: one list for each content. -/
def Memory.wf (m : Memory) : Bool := Memory.risingFrom 0 m

/-- What memory holds at an address: the byte that was set, or the unspecified launch byte (R36, R48, R291). -/
def State.byteAt (s : State) (a : Nat) : Byte :=
  match Memory.lookup s.mem a with
  | some v => v
  | none => Config.launchByte a

/-- The `n` bytes at `a` lie wholly inside the range (R231) and below 2^64. -/
def Region.covers (r : Region) (a n : Nat) : Bool :=
  decide (r.base ≤ a) && decide (a + n ≤ r.base + r.size) && decide (a + n ≤ 2 ^ 64)

/-- The address lies in an admitted range. -/
def State.admits (s : State) (a : Nat) : Bool := s.params.regions.any fun r => Region.covers r a 1

/-- The address lies in a range the host shares with others (R48). -/
def State.shared (s : State) (a : Nat) : Bool := s.params.regions.any fun r => r.shared && Region.covers r a 1

/-- The permission an access needs. -/
inductive Access where
  | read | write | update
deriving DecidableEq, Repr

/-- The range gives the permission (R231, D27). -/
def Region.permits (r : Region) (acc : Access) : Bool :=
  match acc with
  | .read => r.readable
  | .write => r.writable
  | .update => r.readable && r.writable

/-- The admission test of R231 and R44: why the access is not admitted, if it is not. -/
def State.denied (s : State) (acc : Access) (ea : Word) (n : Nat) : Option MemReason :=
  if !(s.params.regions.any fun r => Region.covers r ea.toNat n) then some .region
  else if !(s.params.regions.any fun r => Region.covers r ea.toNat n && Region.permits r acc) then some .permission
  else if !s.params.allowMisaligned && !decide (ea.toNat % n = 0) then some .misaligned
  else none

/-- The bytes a load of `n` bytes gets, ascending: memory's, and in a shared range those of the oracle (R48). -/
def State.loadBytes (s : State) (a n : Nat) : List Byte :=
  (List.range n).map fun k => if s.shared (a + k) then Config.sharedByte (s.draws + k) else s.byteAt (a + k)

/-- The draws used up by a load: none outside shared ranges. -/
def State.afterLoad (s : State) (a n : Nat) : State :=
  if (List.range n).any fun k => s.shared (a + k) then { s with draws := s.draws + n } else s

/-- `MemRead(ea, n)` (R8, R42), zero-extended to 64 bits. -/
def State.memRead (s : State) (ea : Word) (n : Nat) : Word :=
  wordOf (hostOrder s.params.hostEndian (s.loadBytes ea.toNat n))

/-- `MemWrite(ea, n, v)` (R8, R42). -/
def State.memWrite (s : State) (ea : Word) (n : Nat) (v : Word) : State :=
  { s with mem := Memory.storeBytes s.mem ea.toNat (hostOrder s.params.hostEndian (bytesOf n v)) }

/-- An admitted access, or `MemoryFault` (R231). -/
def State.withAccess (s : State) (acc : Access) (ea : Word) (n : Nat) (k : Unit → Out) : Out :=
  match s.denied acc ea n with
  | some reason => s.raise (.memoryFault ea n reason)
  | none => k ()

/-! ### The call stack -/

/-- `CALLEE_FP` (R202, D19). -/
def Params.calleeFpOf (p : Params) (fp : Word) : Word :=
  match p.calleeFp with
  | .identity => fp
  | .below => fp - BitVec.ofNat 64 p.stackFrame
  | .platform => Config.calleeFp fp

/-- The frame a CALL at `pc` pushes: the return slot, R6 to R9 as they are, R10 as it was read (R32, R202). -/
def State.frame (s : State) (fp : Word) : Frame where
  ret := s.pc + 1
  r6 := s.regs.r6
  r7 := s.regs.r7
  r8 := s.regs.r8
  r9 := s.regs.r9
  r10 := .written fp

/-- Entering a program-local function, the jump apart: push the frame, R0 and R6 to R9 become unwritten, R10 is the
callee's frame pointer (R202). -/
def State.enter (s : State) (fp : Word) : State :=
  { s with
    stack := s.frame fp :: s.stack
    regs := { s.regs.dropLocals with r10 := .written (Params.calleeFpOf s.params fp) } }

/-- Leaving a program-local function, the jump apart: pop, restore R6 to R10, R1 to R5 become unwritten (R205). -/
def State.leave (s : State) (f : Frame) (rest : List Frame) : State :=
  { s with
    stack := rest
    regs := { s.regs.dropArgs with r6 := f.r6, r7 := f.r7, r8 := f.r8, r9 := f.r9, r10 := f.r10 } }

/-- The end of the run: the host receives R0 (R37, R206). -/
def State.finish (s : State) (r0 : Word) : Out := .next { s with result := some r0 }

end Sys2Proof.Machine
end

