-- ==== Sys2Proof/Machine/Operands.lean ====
section
/-! DEFINITION. Operand assembly (30_encoding.md R79, R80; 40_arithmetic.md R100, R101; 42_jump.md R161, R162) and the
results of the arithmetic and byte-swap instructions as functions of their operands (40_arithmetic.md, 41_byteswap.md).
Those the spec defines through integers are computed there and narrowed at the end. -/

namespace Sys2Proof.Machine

/-- The source operand of a 64-bit K-form: `sext_64(imm)` (R79, R100, R161, D7). -/
def immOperand (imm : Imm) : Word := imm.signExtend 64

/-- `w[i]`, the 32-bit view of a register (R22). -/
def low (v : Word) : Half := v.setWidth 32

/-- `zext_64` of a class-ALU result (R22, R101). -/
def zext (v : Half) : Word := v.setWidth 64

/-- `off`, the displacement or address offset of the 16-bit field (R8, R80). -/
def offDisp (off : Off) : Int := off.toInt

/-- The displacement of JA32 and CALL local (R80). -/
def immDisp (imm : Imm) : Int := imm.toInt

/-- The effective address `base + sext_64(offset)` modulo 2^64 (R231). -/
def effAddr (base : Word) (off : Off) : Word := base + off.signExtend 64

/-- DIV: the unsigned quotient, 0 for a zero divisor (R109, R110). -/
def divU {w : Nat} (d s : BitVec w) : BitVec w := if s = 0 then 0 else BitVec.ofNat w (d.toNat / s.toNat)

/-- SDIV: the signed quotient rounded toward zero, 0 for a zero divisor (R111, R112, D8). -/
def divS {w : Nat} (d s : BitVec w) : BitVec w := if s = 0 then 0 else BitVec.ofInt w (d.toInt.tdiv s.toInt)

/-- MOD: the unsigned remainder, `d` for a zero divisor (R123, R124). -/
def modU {w : Nat} (d s : BitVec w) : BitVec w := if s = 0 then d else BitVec.ofNat w (d.toNat % s.toNat)

/-- SMOD: `d - s * trunc(d / s)`, `d` for a zero divisor (R125, R126, D8). -/
def modS {w : Nat} (d s : BitVec w) : BitVec w :=
  if s = 0 then d else BitVec.ofInt w (d.toInt - s.toInt * d.toInt.tdiv s.toInt)

/-- The masked shift amount: 6 bits in class ALU64, 5 in class ALU (R117 to R120, R135, R136, D5). -/
def shiftAmount {w : Nat} (s : BitVec w) : Nat := s.toNat &&& (w - 1)

/-- LSH (R117, R118). -/
def lsh {w : Nat} (d s : BitVec w) : BitVec w := d <<< shiftAmount s

/-- RSH, logical (R119, R120). -/
def rsh {w : Nat} (d s : BitVec w) : BitVec w := d >>> shiftAmount s

/-- ARSH, arithmetic: copies of the top bit enter (R135, R136). -/
def arsh {w : Nat} (d s : BitVec w) : BitVec w := d.sshiftRight (shiftAmount s)

/-- MOVSX: the low `n` bits sign-extended to the width of the class (R131 to R134). -/
def movsx {w : Nat} (n : Nat) (s : BitVec w) : BitVec w := (s.setWidth n).signExtend w

/-- The low `n` bytes of a value, zero above (R156: `x[dst][N-1:0]`, zero-extended). -/
def lowBytes (n : Nat) (v : Word) : Word := wordOf (bytesOf n v)

/-- `bswapN` of the low `n` bytes of a value, zero-extended (R156, R157). -/
def swapBytes (n : Nat) (v : Word) : Word := wordOf (bytesOf n v).reverse

/-- TO_LE on `n` bytes: host byte order to or from little endian (R152). -/
def toLe (e : Endian) (n : Nat) (v : Word) : Word :=
  match e with
  | .little => lowBytes n v
  | .big => swapBytes n v

/-- TO_BE on `n` bytes: host byte order to or from big endian (R153). -/
def toBe (e : Endian) (n : Nat) (v : Word) : Word :=
  match e with
  | .little => swapBytes n v
  | .big => lowBytes n v

/-- A loaded value of `n` bytes sign-extended to 64 bits (R230). -/
def sextBytes (n : Nat) (v : Word) : Word := (v.setWidth (8 * n)).signExtend 64

end Sys2Proof.Machine
end

