-- ==== Sys2Proof/Machine/Alu32.lean ====
section
/-! DEFINITION. The arithmetic instructions of class ALU (40_arithmetic.md R101, R102). Operands are the low halves, the
32-bit result is written zero-extended, so the upper half of the destination becomes zero. -/

namespace Sys2Proof.Machine

/-- R101, K-form: `x[dst] <- zext_64(op(w[dst], imm)); pc <- pc + 1`. -/
def alu32K (op : Half → Half → Half) (dst : Reg) (imm : Imm) (s : State) : Out :=
  s.withReg dst fun d => (s.setReg dst (zext (op (low d) imm))).advance 1

/-- R101, X-form: `x[dst] <- zext_64(op(w[dst], w[src])); pc <- pc + 1`; `dst` is read first (R267). -/
def alu32X (op : Half → Half → Half) (dst src : Reg) (s : State) : Out :=
  s.withReg dst fun d => s.withReg src fun v => (s.setReg dst (zext (op (low d) (low v)))).advance 1

/-- MOV and MOVSX, K-form: `x[dst]` is not read (R130, R133, R134). -/
def mov32K (f : Half → Half) (dst : Reg) (imm : Imm) (s : State) : Out :=
  (s.setReg dst (zext (f imm))).advance 1

/-- MOV and MOVSX, X-form: `x[dst]` is not read (R130, R132, R134). -/
def mov32X (f : Half → Half) (dst src : Reg) (s : State) : Out :=
  s.withReg src fun v => (s.setReg dst (zext (f (low v)))).advance 1

/-- NEG: `0 - w[dst]` (R122). -/
def neg32 (dst : Reg) (s : State) : Out :=
  s.withReg dst fun d => (s.setReg dst (zext (0 - low d))).advance 1

/-- ADD32_K (R104). -/
def execAdd32K (dst : Reg) (imm : Imm) (s : State) : Out :=
  alu32K (· + ·) dst imm s

/-- ADD32_X (R104). -/
def execAdd32X (dst src : Reg) (s : State) : Out :=
  alu32X (· + ·) dst src s

/-- SUB32_K (R106). -/
def execSub32K (dst : Reg) (imm : Imm) (s : State) : Out :=
  alu32K (· - ·) dst imm s

/-- SUB32_X (R106). -/
def execSub32X (dst src : Reg) (s : State) : Out :=
  alu32X (· - ·) dst src s

/-- MUL32_K (R108). -/
def execMul32K (dst : Reg) (imm : Imm) (s : State) : Out :=
  alu32K (· * ·) dst imm s

/-- MUL32_X (R108). -/
def execMul32X (dst src : Reg) (s : State) : Out :=
  alu32X (· * ·) dst src s

/-- DIV32_K (R110). -/
def execDiv32K (dst : Reg) (imm : Imm) (s : State) : Out :=
  alu32K divU dst imm s

/-- DIV32_X (R110). -/
def execDiv32X (dst src : Reg) (s : State) : Out :=
  alu32X divU dst src s

/-- SDIV32_K (R112). -/
def execSdiv32K (dst : Reg) (imm : Imm) (s : State) : Out :=
  alu32K divS dst imm s

/-- SDIV32_X (R112). -/
def execSdiv32X (dst src : Reg) (s : State) : Out :=
  alu32X divS dst src s

/-- OR32_K (R114). -/
def execOr32K (dst : Reg) (imm : Imm) (s : State) : Out :=
  alu32K (· ||| ·) dst imm s

/-- OR32_X (R114). -/
def execOr32X (dst src : Reg) (s : State) : Out :=
  alu32X (· ||| ·) dst src s

/-- AND32_K (R116). -/
def execAnd32K (dst : Reg) (imm : Imm) (s : State) : Out :=
  alu32K (· &&& ·) dst imm s

/-- AND32_X (R116). -/
def execAnd32X (dst src : Reg) (s : State) : Out :=
  alu32X (· &&& ·) dst src s

/-- LSH32_K (R118). -/
def execLsh32K (dst : Reg) (imm : Imm) (s : State) : Out :=
  alu32K lsh dst imm s

/-- LSH32_X (R118). -/
def execLsh32X (dst src : Reg) (s : State) : Out :=
  alu32X lsh dst src s

/-- RSH32_K (R120). -/
def execRsh32K (dst : Reg) (imm : Imm) (s : State) : Out :=
  alu32K rsh dst imm s

/-- RSH32_X (R120). -/
def execRsh32X (dst src : Reg) (s : State) : Out :=
  alu32X rsh dst src s

/-- MOD32_K (R124). -/
def execMod32K (dst : Reg) (imm : Imm) (s : State) : Out :=
  alu32K modU dst imm s

/-- MOD32_X (R124). -/
def execMod32X (dst src : Reg) (s : State) : Out :=
  alu32X modU dst src s

/-- SMOD32_K (R126). -/
def execSmod32K (dst : Reg) (imm : Imm) (s : State) : Out :=
  alu32K modS dst imm s

/-- SMOD32_X (R126). -/
def execSmod32X (dst src : Reg) (s : State) : Out :=
  alu32X modS dst src s

/-- XOR32_K (R128). -/
def execXor32K (dst : Reg) (imm : Imm) (s : State) : Out :=
  alu32K (· ^^^ ·) dst imm s

/-- XOR32_X (R128). -/
def execXor32X (dst src : Reg) (s : State) : Out :=
  alu32X (· ^^^ ·) dst src s

/-- MOV32_K (R130). -/
def execMov32K (dst : Reg) (imm : Imm) (s : State) : Out :=
  mov32K id dst imm s

/-- MOV32_X (R130). -/
def execMov32X (dst src : Reg) (s : State) : Out :=
  mov32X id dst src s

/-- ARSH32_K (R136). -/
def execArsh32K (dst : Reg) (imm : Imm) (s : State) : Out :=
  alu32K arsh dst imm s

/-- ARSH32_X (R136). -/
def execArsh32X (dst src : Reg) (s : State) : Out :=
  alu32X arsh dst src s

/-- NEG32 (R122). -/
def execNeg32 (dst : Reg) (s : State) : Out :=
  neg32 dst s

/-- MOVSX32_X_8 (R132). -/
def execMovsx32X8 (dst src : Reg) (s : State) : Out :=
  mov32X (movsx 8) dst src s

/-- MOVSX32_X_16 (R132). -/
def execMovsx32X16 (dst src : Reg) (s : State) : Out :=
  mov32X (movsx 16) dst src s

/-- MOVSX32_X_32 (R134). -/
def execMovsx32X32 (dst src : Reg) (s : State) : Out :=
  mov32X (movsx 32) dst src s

/-- MOVSX32_K_8 (R133). -/
def execMovsx32K8 (dst : Reg) (imm : Imm) (s : State) : Out :=
  mov32K (movsx 8) dst imm s

/-- MOVSX32_K_16 (R133). -/
def execMovsx32K16 (dst : Reg) (imm : Imm) (s : State) : Out :=
  mov32K (movsx 16) dst imm s

/-- MOVSX32_K_32 (R133, R134). -/
def execMovsx32K32 (dst : Reg) (imm : Imm) (s : State) : Out :=
  mov32K (movsx 32) dst imm s

end Sys2Proof.Machine
end

