-- ==== Sys2Proof/Machine/Alu64.lean ====
section
/-! DEFINITION. The arithmetic instructions of class ALU64 (40_arithmetic.md R100, R102). Each reads all its operands
before it writes `x[dst]`, writes nothing else, and goes to the next slot; the only faults are `UninitRegister` and the
fall-through (R102, R267). -/

namespace Sys2Proof.Machine

/-- R100, K-form: `x[dst] <- op(x[dst], sext_64(imm)); pc <- pc + 1`. -/
def alu64K (op : Word → Word → Word) (dst : Reg) (imm : Imm) (s : State) : Out :=
  s.withReg dst fun d => (s.setReg dst (op d (immOperand imm))).advance 1

/-- R100, X-form: `x[dst] <- op(x[dst], x[src]); pc <- pc + 1`; `dst` is read first (R267). -/
def alu64X (op : Word → Word → Word) (dst src : Reg) (s : State) : Out :=
  s.withReg dst fun d => s.withReg src fun v => (s.setReg dst (op d v)).advance 1

/-- MOV and MOVSX, K-form: `x[dst]` is not read (R129, R133). -/
def mov64K (f : Word → Word) (dst : Reg) (imm : Imm) (s : State) : Out :=
  (s.setReg dst (f (immOperand imm))).advance 1

/-- MOV and MOVSX, X-form: `x[dst]` is not read (R129, R131). -/
def mov64X (f : Word → Word) (dst src : Reg) (s : State) : Out :=
  s.withReg src fun v => (s.setReg dst (f v)).advance 1

/-- NEG: `0 - x[dst]` (R121). -/
def neg64 (dst : Reg) (s : State) : Out :=
  s.withReg dst fun d => (s.setReg dst (0 - d)).advance 1

/-- ADD64_K (R103). -/
def execAdd64K (dst : Reg) (imm : Imm) (s : State) : Out :=
  alu64K (· + ·) dst imm s

/-- ADD64_X (R103). -/
def execAdd64X (dst src : Reg) (s : State) : Out :=
  alu64X (· + ·) dst src s

/-- SUB64_K (R105). -/
def execSub64K (dst : Reg) (imm : Imm) (s : State) : Out :=
  alu64K (· - ·) dst imm s

/-- SUB64_X (R105). -/
def execSub64X (dst src : Reg) (s : State) : Out :=
  alu64X (· - ·) dst src s

/-- MUL64_K (R107). -/
def execMul64K (dst : Reg) (imm : Imm) (s : State) : Out :=
  alu64K (· * ·) dst imm s

/-- MUL64_X (R107). -/
def execMul64X (dst src : Reg) (s : State) : Out :=
  alu64X (· * ·) dst src s

/-- DIV64_K (R109). -/
def execDiv64K (dst : Reg) (imm : Imm) (s : State) : Out :=
  alu64K divU dst imm s

/-- DIV64_X (R109). -/
def execDiv64X (dst src : Reg) (s : State) : Out :=
  alu64X divU dst src s

/-- SDIV64_K (R111). -/
def execSdiv64K (dst : Reg) (imm : Imm) (s : State) : Out :=
  alu64K divS dst imm s

/-- SDIV64_X (R111). -/
def execSdiv64X (dst src : Reg) (s : State) : Out :=
  alu64X divS dst src s

/-- OR64_K (R113). -/
def execOr64K (dst : Reg) (imm : Imm) (s : State) : Out :=
  alu64K (· ||| ·) dst imm s

/-- OR64_X (R113). -/
def execOr64X (dst src : Reg) (s : State) : Out :=
  alu64X (· ||| ·) dst src s

/-- AND64_K (R115). -/
def execAnd64K (dst : Reg) (imm : Imm) (s : State) : Out :=
  alu64K (· &&& ·) dst imm s

/-- AND64_X (R115). -/
def execAnd64X (dst src : Reg) (s : State) : Out :=
  alu64X (· &&& ·) dst src s

/-- LSH64_K (R117). -/
def execLsh64K (dst : Reg) (imm : Imm) (s : State) : Out :=
  alu64K lsh dst imm s

/-- LSH64_X (R117). -/
def execLsh64X (dst src : Reg) (s : State) : Out :=
  alu64X lsh dst src s

/-- RSH64_K (R119). -/
def execRsh64K (dst : Reg) (imm : Imm) (s : State) : Out :=
  alu64K rsh dst imm s

/-- RSH64_X (R119). -/
def execRsh64X (dst src : Reg) (s : State) : Out :=
  alu64X rsh dst src s

/-- MOD64_K (R123). -/
def execMod64K (dst : Reg) (imm : Imm) (s : State) : Out :=
  alu64K modU dst imm s

/-- MOD64_X (R123). -/
def execMod64X (dst src : Reg) (s : State) : Out :=
  alu64X modU dst src s

/-- SMOD64_K (R125). -/
def execSmod64K (dst : Reg) (imm : Imm) (s : State) : Out :=
  alu64K modS dst imm s

/-- SMOD64_X (R125). -/
def execSmod64X (dst src : Reg) (s : State) : Out :=
  alu64X modS dst src s

/-- XOR64_K (R127). -/
def execXor64K (dst : Reg) (imm : Imm) (s : State) : Out :=
  alu64K (· ^^^ ·) dst imm s

/-- XOR64_X (R127). -/
def execXor64X (dst src : Reg) (s : State) : Out :=
  alu64X (· ^^^ ·) dst src s

/-- MOV64_K (R129). -/
def execMov64K (dst : Reg) (imm : Imm) (s : State) : Out :=
  mov64K id dst imm s

/-- MOV64_X (R129). -/
def execMov64X (dst src : Reg) (s : State) : Out :=
  mov64X id dst src s

/-- ARSH64_K (R135). -/
def execArsh64K (dst : Reg) (imm : Imm) (s : State) : Out :=
  alu64K arsh dst imm s

/-- ARSH64_X (R135). -/
def execArsh64X (dst src : Reg) (s : State) : Out :=
  alu64X arsh dst src s

/-- NEG64 (R121). -/
def execNeg64 (dst : Reg) (s : State) : Out :=
  neg64 dst s

/-- MOVSX64_X_8 (R131). -/
def execMovsx64X8 (dst src : Reg) (s : State) : Out :=
  mov64X (movsx 8) dst src s

/-- MOVSX64_X_16 (R131). -/
def execMovsx64X16 (dst src : Reg) (s : State) : Out :=
  mov64X (movsx 16) dst src s

/-- MOVSX64_X_32 (R131). -/
def execMovsx64X32 (dst src : Reg) (s : State) : Out :=
  mov64X (movsx 32) dst src s

/-- MOVSX64_K_8 (R133). -/
def execMovsx64K8 (dst : Reg) (imm : Imm) (s : State) : Out :=
  mov64K (movsx 8) dst imm s

/-- MOVSX64_K_16 (R133). -/
def execMovsx64K16 (dst : Reg) (imm : Imm) (s : State) : Out :=
  mov64K (movsx 16) dst imm s

/-- MOVSX64_K_32 (R133). -/
def execMovsx64K32 (dst : Reg) (imm : Imm) (s : State) : Out :=
  mov64K (movsx 32) dst imm s

end Sys2Proof.Machine
end

