-- ==== Sys2Proof/Machine/Atomic.lean ====
section
/-! DEFINITION. The atomic operations (R240). Read and write are one step, which is all that R241 asks of one agent. The
access needs both permissions (log entry 17). -/

namespace Sys2Proof.Machine

/-- R240, without FETCH: `mem[ea] <- mem[ea] op x[src]` on the low `n` bytes; no register is written. -/
def atomicOp (n : Nat) (op : Word → Word → Word) (dst src : Reg) (off : Off) (s : State) : Out :=
  s.withReg dst fun base => s.withReg src fun v =>
    s.withAccess .update (effAddr base off) n fun _ =>
      ((s.afterLoad (effAddr base off).toNat n).memWrite (effAddr base off) n
        (op (s.memRead (effAddr base off) n) v)).advance 1

/-- R240, with FETCH, and XCHG: the same, and `x[src] <- zext_64(old mem[ea])`. -/
def atomicFetch (n : Nat) (op : Word → Word → Word) (dst src : Reg) (off : Off) (s : State) : Out :=
  s.withReg dst fun base => s.withReg src fun v =>
    s.withAccess .update (effAddr base off) n fun _ =>
      (((s.afterLoad (effAddr base off).toNat n).memWrite (effAddr base off) n
        (op (s.memRead (effAddr base off) n) v)).setReg src (s.memRead (effAddr base off) n)).advance 1

/-- R240, CMPXCHG: `mem[ea] <- x[src]` if the old value is `x[0][8n-1:0]`; in both cases `x[0] <- zext_64(old mem[ea])`.
All registers are read before the access is checked (C11, log entry 17). -/
def atomicCmpxchg (n : Nat) (dst src : Reg) (off : Off) (s : State) : Out :=
  s.withReg dst fun base => s.withReg src fun v => s.withReg .r0 fun expected =>
    s.withAccess .update (effAddr base off) n fun _ =>
      let old := s.memRead (effAddr base off) n
      let s1 := s.afterLoad (effAddr base off).toNat n
      let s2 := if old = lowBytes n expected then s1.memWrite (effAddr base off) n v else s1
      (s2.setReg .r0 old).advance 1

/-- ATOMIC32_ADD (R240). -/
def execAtomic32Add (dst src : Reg) (off : Off) (s : State) : Out :=
  atomicOp 4 (· + ·) dst src off s

/-- ATOMIC32_OR (R240). -/
def execAtomic32Or (dst src : Reg) (off : Off) (s : State) : Out :=
  atomicOp 4 (· ||| ·) dst src off s

/-- ATOMIC32_AND (R240). -/
def execAtomic32And (dst src : Reg) (off : Off) (s : State) : Out :=
  atomicOp 4 (· &&& ·) dst src off s

/-- ATOMIC32_XOR (R240). -/
def execAtomic32Xor (dst src : Reg) (off : Off) (s : State) : Out :=
  atomicOp 4 (· ^^^ ·) dst src off s

/-- ATOMIC32_FETCH_ADD (R240). -/
def execAtomic32FetchAdd (dst src : Reg) (off : Off) (s : State) : Out :=
  atomicFetch 4 (· + ·) dst src off s

/-- ATOMIC32_FETCH_OR (R240). -/
def execAtomic32FetchOr (dst src : Reg) (off : Off) (s : State) : Out :=
  atomicFetch 4 (· ||| ·) dst src off s

/-- ATOMIC32_FETCH_AND (R240). -/
def execAtomic32FetchAnd (dst src : Reg) (off : Off) (s : State) : Out :=
  atomicFetch 4 (· &&& ·) dst src off s

/-- ATOMIC32_FETCH_XOR (R240). -/
def execAtomic32FetchXor (dst src : Reg) (off : Off) (s : State) : Out :=
  atomicFetch 4 (· ^^^ ·) dst src off s

/-- ATOMIC32_XCHG (R240). -/
def execAtomic32Xchg (dst src : Reg) (off : Off) (s : State) : Out :=
  atomicFetch 4 (fun _ v => v) dst src off s

/-- ATOMIC32_CMPXCHG (R240). -/
def execAtomic32Cmpxchg (dst src : Reg) (off : Off) (s : State) : Out :=
  atomicCmpxchg 4 dst src off s

/-- ATOMIC64_ADD (R240). -/
def execAtomic64Add (dst src : Reg) (off : Off) (s : State) : Out :=
  atomicOp 8 (· + ·) dst src off s

/-- ATOMIC64_OR (R240). -/
def execAtomic64Or (dst src : Reg) (off : Off) (s : State) : Out :=
  atomicOp 8 (· ||| ·) dst src off s

/-- ATOMIC64_AND (R240). -/
def execAtomic64And (dst src : Reg) (off : Off) (s : State) : Out :=
  atomicOp 8 (· &&& ·) dst src off s

/-- ATOMIC64_XOR (R240). -/
def execAtomic64Xor (dst src : Reg) (off : Off) (s : State) : Out :=
  atomicOp 8 (· ^^^ ·) dst src off s

/-- ATOMIC64_FETCH_ADD (R240). -/
def execAtomic64FetchAdd (dst src : Reg) (off : Off) (s : State) : Out :=
  atomicFetch 8 (· + ·) dst src off s

/-- ATOMIC64_FETCH_OR (R240). -/
def execAtomic64FetchOr (dst src : Reg) (off : Off) (s : State) : Out :=
  atomicFetch 8 (· ||| ·) dst src off s

/-- ATOMIC64_FETCH_AND (R240). -/
def execAtomic64FetchAnd (dst src : Reg) (off : Off) (s : State) : Out :=
  atomicFetch 8 (· &&& ·) dst src off s

/-- ATOMIC64_FETCH_XOR (R240). -/
def execAtomic64FetchXor (dst src : Reg) (off : Off) (s : State) : Out :=
  atomicFetch 8 (· ^^^ ·) dst src off s

/-- ATOMIC64_XCHG (R240). -/
def execAtomic64Xchg (dst src : Reg) (off : Off) (s : State) : Out :=
  atomicFetch 8 (fun _ v => v) dst src off s

/-- ATOMIC64_CMPXCHG (R240). -/
def execAtomic64Cmpxchg (dst src : Reg) (off : Off) (s : State) : Out :=
  atomicCmpxchg 8 dst src off s

end Sys2Proof.Machine
end

