-- ==== Sys2Proof/Machine/ByteSwap.lean ====
section
/-! DEFINITION. END, the byte swaps (41_byteswap.md). The operand is `x[dst]` alone (R150); widths are counted in bytes
here, 2, 4 and 8. -/

namespace Sys2Proof.Machine

/-- END: `x[dst] <- f(x[dst]); pc <- pc + 1`, `f` reading the low bytes of its width and zero-extending (R156). -/
def endSwap (f : Word → Word) (dst : Reg) (s : State) : Out :=
  s.withReg dst fun d => (s.setReg dst (f d)).advance 1

/-- TOLE_16 (R152). -/
def execTole16 (dst : Reg) (s : State) : Out :=
  endSwap (toLe s.params.hostEndian 2) dst s

/-- TOLE_32 (R152). -/
def execTole32 (dst : Reg) (s : State) : Out :=
  endSwap (toLe s.params.hostEndian 4) dst s

/-- TOLE_64 (R152). -/
def execTole64 (dst : Reg) (s : State) : Out :=
  endSwap (toLe s.params.hostEndian 8) dst s

/-- TOBE_16 (R153). -/
def execTobe16 (dst : Reg) (s : State) : Out :=
  endSwap (toBe s.params.hostEndian 2) dst s

/-- TOBE_32 (R153). -/
def execTobe32 (dst : Reg) (s : State) : Out :=
  endSwap (toBe s.params.hostEndian 4) dst s

/-- TOBE_64 (R153). -/
def execTobe64 (dst : Reg) (s : State) : Out :=
  endSwap (toBe s.params.hostEndian 8) dst s

/-- BSWAP_16 (R154). -/
def execBswap16 (dst : Reg) (s : State) : Out :=
  endSwap (swapBytes 2) dst s

/-- BSWAP_32 (R154). -/
def execBswap32 (dst : Reg) (s : State) : Out :=
  endSwap (swapBytes 4) dst s

/-- BSWAP_64 (R154). -/
def execBswap64 (dst : Reg) (s : State) : Out :=
  endSwap (swapBytes 8) dst s

end Sys2Proof.Machine
end

