-- ==== Sys2Proof/Machine/Call.lean ====
section
/-! DEFINITION. CALL in its three forms and EXIT (43_call_exit.md). -/

namespace Sys2Proof.Machine

/-- The argument registers in the order a helper reads them (R201, R267: "R1 first"). -/
def argRegs (h : Helper) : List Reg := [.r1, .r2, .r3, .r4, .r5].filter fun r => h.reads.contains r

/-- The byte a helper reads at an address: memory's, or the oracle's where the host shares it (R48). -/
def State.helperSees (s : State) (a : Nat) : Byte :=
  if s.shared a then Config.helperSees s.draws a else s.byteAt a

/-- A known case speaks of these argument values and of this memory; a helper reads admitted memory alone (R48). -/
def caseApplies (s : State) (args : List Word) (c : HelperCase) : Bool :=
  c.args == args && c.mem.all fun m => s.admits m.1 && s.helperSees m.1 == m.2

/-- What the helper's relation is known to allow on these argument values in this memory (R201, D20). -/
def allowedOutcomes (s : State) (h : Helper) (args : List Word) : List HelperOutcome :=
  (h.cases.filter (caseApplies s args)).map fun c => c.outcome

/-- The bytes of a helper's answer that lie in admitted memory: the only ones it may write (R48, U13). -/
def admittedCells (s : State) (cells : List Host.Cell) : List Host.Cell := cells.filter fun c => s.admits c.1

/-- What the helper does: any of the allowed outcomes, or a free value where none is known (R201, U13). -/
def helperOutcome (s : State) (kind : HelperKind) (h : Helper) (args : List Word) : HelperOutcome :=
  match allowedOutcomes s h args with
  | [] => Config.helperAnswer s.draws kind h.id args (admittedCells s s.mem)
  | [o] => o
  | o :: rest => (o :: rest).getD (Config.helperChoice s.draws % (rest.length + 1)) o

/-- The return of a helper (R201): R0 holds the result, R1 to R5 become unwritten, memory is what it wrote, the next
instruction follows. One draw is used up. -/
def helperReturn (s : State) (r0 : Word) (cells : List Host.Cell) : Out :=
  State.advance
    { s with
      regs := { s.regs.dropArgs with r0 := .written r0 }
      mem := Memory.storeCells s.mem (admittedCells s cells)
      draws := s.draws + 1 } 1

/-- A helper's answer: a result, a fault of its own, or none (R201). -/
def helperAnswer (s : State) (id : Imm) (o : HelperOutcome) : Out :=
  match o with
  | .returns r0 cells => helperReturn s r0 cells
  | .faults code => s.raise (.helperFault s.pc id code)
  | .stuck => .fault .helperStuck

/-- The map a CALL looks its ID up in (R201, R203). -/
def Params.helperTable (p : Params) : HelperKind → List Helper
  | .static => p.helpers
  | .btf => p.btfHelpers

/-- R201 and R203 over the map they name: `UnknownHelper`, then the argument registers, then the helper (R267). -/
def callHelper (kind : HelperKind) (id : Imm) (s : State) : Out :=
  match (Params.helperTable s.params kind).find? fun h => h.id == id with
  | none => s.raise (.unknownHelper s.pc id)
  | some h => s.withRegs (argRegs h) fun args => helperAnswer s id (helperOutcome s kind h args)

/-- CALL_HELPER (R201): by static ID. -/
def execCallHelper (id : Imm) (s : State) : Out :=
  callHelper .static id s

/-- CALL_LOCAL (R202): R10 is read, then the target is checked, then the depth (R267); nothing is pushed if one of them
fails. -/
def execCallLocal (imm : Imm) (s : State) : Out :=
  s.withReg .r10 fun fp =>
    let t := s.target (immDisp imm)
    if 0 ≤ t ∧ s.validSlot t.toNat = true then
      if s.stack.length = s.params.maxCallDepth then s.raise (.callDepthExceeded s.pc)
      else (s.enter fp).goto t
    else s.raise (.badJumpTarget s.pc t)

/-- CALL_BTF (R203): by BTF ID. -/
def execCallBtf (id : Imm) (s : State) : Out :=
  callHelper .btf id s

/-- EXIT (R205, R206, R207): R0 must be written; the run ends, or the caller goes on at the return slot. -/
def execExit (s : State) : Out :=
  s.withReg .r0 fun r0 =>
    match s.stack with
    | [] => s.finish r0
    | f :: rest => (s.leave f rest).goto (f.ret : Int)

end Sys2Proof.Machine
end

