-- ==== Sys2Proof/Machine/Flags.lean ====
section
/-! DEFINITION. There are no flags or condition codes (R29): a conditional jump compares its two operands itself. What
stands here in their place is the table of the eleven conditions (42_jump.md, "The eleven conditions in one table"), at
either width. -/

namespace Sys2Proof.Machine

/-- JEQ (R166, R167). -/
def condEq {w : Nat} (d s : BitVec w) : Bool := d == s

/-- JNE (R174, R175). -/
def condNe {w : Nat} (d s : BitVec w) : Bool := !(d == s)

/-- JSET: some bit in common (R172, R173). -/
def condSet {w : Nat} (d s : BitVec w) : Bool := !((d &&& s) == 0)

/-- JGT, unsigned (R168, R169). -/
def condGt {w : Nat} (d s : BitVec w) : Bool := decide (d.toNat > s.toNat)

/-- JGE, unsigned (R170, R171). -/
def condGe {w : Nat} (d s : BitVec w) : Bool := decide (d.toNat ≥ s.toNat)

/-- JLT, unsigned (R180, R181). -/
def condLt {w : Nat} (d s : BitVec w) : Bool := decide (d.toNat < s.toNat)

/-- JLE, unsigned (R182, R183). -/
def condLe {w : Nat} (d s : BitVec w) : Bool := decide (d.toNat ≤ s.toNat)

/-- JSGT, signed (R176, R177). -/
def condSgt {w : Nat} (d s : BitVec w) : Bool := decide (d.toInt > s.toInt)

/-- JSGE, signed (R178, R179). -/
def condSge {w : Nat} (d s : BitVec w) : Bool := decide (d.toInt ≥ s.toInt)

/-- JSLT, signed (R184, R185). -/
def condSlt {w : Nat} (d s : BitVec w) : Bool := decide (d.toInt < s.toInt)

/-- JSLE, signed (R186, R187). -/
def condSle {w : Nat} (d s : BitVec w) : Bool := decide (d.toInt ≤ s.toInt)

end Sys2Proof.Machine
end

