-- ==== Sys2Proof/Machine/Jump.lean ====
section
/-! DEFINITION. JA and the conditional jumps of class JMP (42_jump.md). No register is written, nothing is linked or
saved (R163, R191). A K-form's `src_reg` is not read (R78). -/

namespace Sys2Proof.Machine

/-- R161, R163, K-form: `D = x[dst]`, `S = sext_64(imm)`. -/
def jump64K (c : Word → Word → Bool) (dst : Reg) (off : Off) (imm : Imm) (s : State) : Out :=
  s.withReg dst fun d => s.branch (c d (immOperand imm)) (offDisp off)

/-- R161, R163, X-form: `D = x[dst]`, `S = x[src]`; `dst` is read first (R267). -/
def jump64X (c : Word → Word → Bool) (dst src : Reg) (off : Off) (s : State) : Out :=
  s.withReg dst fun d => s.withReg src fun v => s.branch (c d v) (offDisp off)

/-- JA (R164): `pc <- pc + 1 + off`. -/
def execJa (off : Off) (s : State) : Out :=
  s.goto (s.target (offDisp off))

/-- JEQ_K (R166). -/
def execJeqK (dst : Reg) (_anySrc : Nibble) (off : Off) (imm : Imm) (s : State) : Out :=
  jump64K condEq dst off imm s

/-- JEQ_X (R166). -/
def execJeqX (dst src : Reg) (off : Off) (s : State) : Out :=
  jump64X condEq dst src off s

/-- JGT_K (R168). -/
def execJgtK (dst : Reg) (_anySrc : Nibble) (off : Off) (imm : Imm) (s : State) : Out :=
  jump64K condGt dst off imm s

/-- JGT_X (R168). -/
def execJgtX (dst src : Reg) (off : Off) (s : State) : Out :=
  jump64X condGt dst src off s

/-- JGE_K (R170). -/
def execJgeK (dst : Reg) (_anySrc : Nibble) (off : Off) (imm : Imm) (s : State) : Out :=
  jump64K condGe dst off imm s

/-- JGE_X (R170). -/
def execJgeX (dst src : Reg) (off : Off) (s : State) : Out :=
  jump64X condGe dst src off s

/-- JSET_K (R172). -/
def execJsetK (dst : Reg) (_anySrc : Nibble) (off : Off) (imm : Imm) (s : State) : Out :=
  jump64K condSet dst off imm s

/-- JSET_X (R172). -/
def execJsetX (dst src : Reg) (off : Off) (s : State) : Out :=
  jump64X condSet dst src off s

/-- JNE_K (R174). -/
def execJneK (dst : Reg) (_anySrc : Nibble) (off : Off) (imm : Imm) (s : State) : Out :=
  jump64K condNe dst off imm s

/-- JNE_X (R174). -/
def execJneX (dst src : Reg) (off : Off) (s : State) : Out :=
  jump64X condNe dst src off s

/-- JSGT_K (R176). -/
def execJsgtK (dst : Reg) (_anySrc : Nibble) (off : Off) (imm : Imm) (s : State) : Out :=
  jump64K condSgt dst off imm s

/-- JSGT_X (R176). -/
def execJsgtX (dst src : Reg) (off : Off) (s : State) : Out :=
  jump64X condSgt dst src off s

/-- JSGE_K (R178). -/
def execJsgeK (dst : Reg) (_anySrc : Nibble) (off : Off) (imm : Imm) (s : State) : Out :=
  jump64K condSge dst off imm s

/-- JSGE_X (R178). -/
def execJsgeX (dst src : Reg) (off : Off) (s : State) : Out :=
  jump64X condSge dst src off s

/-- JLT_K (R180). -/
def execJltK (dst : Reg) (_anySrc : Nibble) (off : Off) (imm : Imm) (s : State) : Out :=
  jump64K condLt dst off imm s

/-- JLT_X (R180). -/
def execJltX (dst src : Reg) (off : Off) (s : State) : Out :=
  jump64X condLt dst src off s

/-- JLE_K (R182). -/
def execJleK (dst : Reg) (_anySrc : Nibble) (off : Off) (imm : Imm) (s : State) : Out :=
  jump64K condLe dst off imm s

/-- JLE_X (R182). -/
def execJleX (dst src : Reg) (off : Off) (s : State) : Out :=
  jump64X condLe dst src off s

/-- JSLT_K (R184). -/
def execJsltK (dst : Reg) (_anySrc : Nibble) (off : Off) (imm : Imm) (s : State) : Out :=
  jump64K condSlt dst off imm s

/-- JSLT_X (R184). -/
def execJsltX (dst src : Reg) (off : Off) (s : State) : Out :=
  jump64X condSlt dst src off s

/-- JSLE_K (R186). -/
def execJsleK (dst : Reg) (_anySrc : Nibble) (off : Off) (imm : Imm) (s : State) : Out :=
  jump64K condSle dst off imm s

/-- JSLE_X (R186). -/
def execJsleX (dst src : Reg) (off : Off) (s : State) : Out :=
  jump64X condSle dst src off s

end Sys2Proof.Machine
end

