-- ==== Sys2Proof/Machine/Jump32.lean ====
section
/-! DEFINITION. JA32 and the conditional jumps of class JMP32 (42_jump.md). The conditional jumps compare the low halves
and still jump by the 16-bit `offset` (R162, C3); only JA32 jumps by `imm` (R165). -/

namespace Sys2Proof.Machine

/-- R162, R163, K-form: `D = w[dst]`, `S = imm`. -/
def jump32K (c : Half → Half → Bool) (dst : Reg) (off : Off) (imm : Imm) (s : State) : Out :=
  s.withReg dst fun d => s.branch (c (low d) imm) (offDisp off)

/-- R162, R163, X-form: `D = w[dst]`, `S = w[src]`; `dst` is read first (R267). -/
def jump32X (c : Half → Half → Bool) (dst src : Reg) (off : Off) (s : State) : Out :=
  s.withReg dst fun d => s.withReg src fun v => s.branch (c (low d) (low v)) (offDisp off)

/-- JA32 (R165): `pc <- pc + 1 + s(imm)`. -/
def execJa32 (imm : Imm) (s : State) : Out :=
  s.goto (s.target (immDisp imm))

/-- JEQ32_K (R167). -/
def execJeq32K (dst : Reg) (_anySrc : Nibble) (off : Off) (imm : Imm) (s : State) : Out :=
  jump32K condEq dst off imm s

/-- JEQ32_X (R167). -/
def execJeq32X (dst src : Reg) (off : Off) (s : State) : Out :=
  jump32X condEq dst src off s

/-- JGT32_K (R169). -/
def execJgt32K (dst : Reg) (_anySrc : Nibble) (off : Off) (imm : Imm) (s : State) : Out :=
  jump32K condGt dst off imm s

/-- JGT32_X (R169). -/
def execJgt32X (dst src : Reg) (off : Off) (s : State) : Out :=
  jump32X condGt dst src off s

/-- JGE32_K (R171). -/
def execJge32K (dst : Reg) (_anySrc : Nibble) (off : Off) (imm : Imm) (s : State) : Out :=
  jump32K condGe dst off imm s

/-- JGE32_X (R171). -/
def execJge32X (dst src : Reg) (off : Off) (s : State) : Out :=
  jump32X condGe dst src off s

/-- JSET32_K (R173). -/
def execJset32K (dst : Reg) (_anySrc : Nibble) (off : Off) (imm : Imm) (s : State) : Out :=
  jump32K condSet dst off imm s

/-- JSET32_X (R173). -/
def execJset32X (dst src : Reg) (off : Off) (s : State) : Out :=
  jump32X condSet dst src off s

/-- JNE32_K (R175). -/
def execJne32K (dst : Reg) (_anySrc : Nibble) (off : Off) (imm : Imm) (s : State) : Out :=
  jump32K condNe dst off imm s

/-- JNE32_X (R175). -/
def execJne32X (dst src : Reg) (off : Off) (s : State) : Out :=
  jump32X condNe dst src off s

/-- JSGT32_K (R177). -/
def execJsgt32K (dst : Reg) (_anySrc : Nibble) (off : Off) (imm : Imm) (s : State) : Out :=
  jump32K condSgt dst off imm s

/-- JSGT32_X (R177). -/
def execJsgt32X (dst src : Reg) (off : Off) (s : State) : Out :=
  jump32X condSgt dst src off s

/-- JSGE32_K (R179). -/
def execJsge32K (dst : Reg) (_anySrc : Nibble) (off : Off) (imm : Imm) (s : State) : Out :=
  jump32K condSge dst off imm s

/-- JSGE32_X (R179). -/
def execJsge32X (dst src : Reg) (off : Off) (s : State) : Out :=
  jump32X condSge dst src off s

/-- JLT32_K (R181). -/
def execJlt32K (dst : Reg) (_anySrc : Nibble) (off : Off) (imm : Imm) (s : State) : Out :=
  jump32K condLt dst off imm s

/-- JLT32_X (R181). -/
def execJlt32X (dst src : Reg) (off : Off) (s : State) : Out :=
  jump32X condLt dst src off s

/-- JLE32_K (R183). -/
def execJle32K (dst : Reg) (_anySrc : Nibble) (off : Off) (imm : Imm) (s : State) : Out :=
  jump32K condLe dst off imm s

/-- JLE32_X (R183). -/
def execJle32X (dst src : Reg) (off : Off) (s : State) : Out :=
  jump32X condLe dst src off s

/-- JSLT32_K (R185). -/
def execJslt32K (dst : Reg) (_anySrc : Nibble) (off : Off) (imm : Imm) (s : State) : Out :=
  jump32K condSlt dst off imm s

/-- JSLT32_X (R185). -/
def execJslt32X (dst src : Reg) (off : Off) (s : State) : Out :=
  jump32X condSlt dst src off s

/-- JSLE32_K (R187). -/
def execJsle32K (dst : Reg) (_anySrc : Nibble) (off : Off) (imm : Imm) (s : State) : Out :=
  jump32K condSle dst off imm s

/-- JSLE32_X (R187). -/
def execJsle32X (dst src : Reg) (off : Off) (s : State) : Out :=
  jump32X condSle dst src off s

end Sys2Proof.Machine
end

