-- ==== Sys2Proof/Machine/Load.lean ====
section
/-! DEFINITION. The loads: class LDX (R227, R230), the 128-bit immediate load (R232 to R234) and the legacy packet
loads, which the spec gives no meaning (R235). -/

namespace Sys2Proof.Machine

/-- R227, R230: `x[dst] <- ext(MemRead(x[src] + off, n)); pc <- pc + 1`; the base register is read before the access is
checked (R267). -/
def load (n : Nat) (ext : Word → Word) (dst src : Reg) (off : Off) (s : State) : Out :=
  s.withReg src fun base =>
    s.withAccess .read (effAddr base off) n fun _ =>
      ((s.afterLoad (effAddr base off).toNat n).setReg dst (ext (s.memRead (effAddr base off) n))).advance 1

/-- R232: `x[dst] <- v; pc <- pc + 2`. -/
def loadConst (v : Word) (dst : Reg) (s : State) : Out :=
  (s.setReg dst v).advance 2

/-- R235: "The spec gives them no semantics: refused even under `supplement`." -/
def legacyLoad (_rest : BitVec 56) (_s : State) : Out :=
  .refused .legacyPacketLoad

/-- LDXW (R227). -/
def execLdxw (dst src : Reg) (off : Off) (s : State) : Out :=
  load 4 id dst src off s

/-- LDXH (R227). -/
def execLdxh (dst src : Reg) (off : Off) (s : State) : Out :=
  load 2 id dst src off s

/-- LDXB (R227). -/
def execLdxb (dst src : Reg) (off : Off) (s : State) : Out :=
  load 1 id dst src off s

/-- LDXDW (R227). -/
def execLdxdw (dst src : Reg) (off : Off) (s : State) : Out :=
  load 8 id dst src off s

/-- LDXSW (R230). -/
def execLdxsw (dst src : Reg) (off : Off) (s : State) : Out :=
  load 4 (sextBytes 4) dst src off s

/-- LDXSH (R230). -/
def execLdxsh (dst src : Reg) (off : Off) (s : State) : Out :=
  load 2 (sextBytes 2) dst src off s

/-- LDXSB (R230). -/
def execLdxsb (dst src : Reg) (off : Off) (s : State) : Out :=
  load 1 (sextBytes 1) dst src off s

/-- LDDW (R233). -/
def execLddw (dst : Reg) (imm nextImm : Imm) (s : State) : Out :=
  loadConst (nextImm ++ imm) dst s

/-- LDDW_SUBTYPE_1 (R234). -/
def execLddwSubtype1 (dst : Reg) (imm _nextImm : Imm) (s : State) : Out :=
  loadConst (Config.mapByFd imm) dst s

/-- LDDW_SUBTYPE_2 (R234). -/
def execLddwSubtype2 (dst : Reg) (imm nextImm : Imm) (s : State) : Out :=
  loadConst (Config.mapVal (Config.mapByFd imm) + immOperand nextImm) dst s

/-- LDDW_SUBTYPE_3 (R234). -/
def execLddwSubtype3 (dst : Reg) (imm _nextImm : Imm) (s : State) : Out :=
  loadConst (Config.varAddr imm) dst s

/-- LDDW_SUBTYPE_4 (R234). -/
def execLddwSubtype4 (dst : Reg) (imm _nextImm : Imm) (s : State) : Out :=
  loadConst (Config.codeAddr imm) dst s

/-- LDDW_SUBTYPE_5 (R234). -/
def execLddwSubtype5 (dst : Reg) (imm _nextImm : Imm) (s : State) : Out :=
  loadConst (Config.mapByIdx imm) dst s

/-- LDDW_SUBTYPE_6 (R234). -/
def execLddwSubtype6 (dst : Reg) (imm nextImm : Imm) (s : State) : Out :=
  loadConst (Config.mapVal (Config.mapByIdx imm) + immOperand nextImm) dst s

/-- LDABSW (R235). -/
def execLdabsw (rest : BitVec 56) (s : State) : Out :=
  legacyLoad rest s

/-- LDABSH (R235). -/
def execLdabsh (rest : BitVec 56) (s : State) : Out :=
  legacyLoad rest s

/-- LDABSB (R235). -/
def execLdabsb (rest : BitVec 56) (s : State) : Out :=
  legacyLoad rest s

/-- LDINDW (R235). -/
def execLdindw (rest : BitVec 56) (s : State) : Out :=
  legacyLoad rest s

/-- LDINDH (R235). -/
def execLdindh (rest : BitVec 56) (s : State) : Out :=
  legacyLoad rest s

/-- LDINDB (R235). -/
def execLdindb (rest : BitVec 56) (s : State) : Out :=
  legacyLoad rest s

end Sys2Proof.Machine
end

