-- ==== Sys2Proof/Machine/Store.lean ====
section
/-! DEFINITION. The stores: class ST (R228) and class STX, mode MEM (R229). -/

namespace Sys2Proof.Machine

/-- R228: `MemWrite(x[dst] + off, n, sext_64(imm)); pc <- pc + 1`. -/
def storeImm (n : Nat) (dst : Reg) (off : Off) (imm : Imm) (s : State) : Out :=
  s.withReg dst fun base =>
    s.withAccess .write (effAddr base off) n fun _ =>
      (s.memWrite (effAddr base off) n (immOperand imm)).advance 1

/-- R229: `MemWrite(x[dst] + off, n, x[src]); pc <- pc + 1`; base, then value, then the access (R267). -/
def storeReg (n : Nat) (dst src : Reg) (off : Off) (s : State) : Out :=
  s.withReg dst fun base => s.withReg src fun v =>
    s.withAccess .write (effAddr base off) n fun _ =>
      (s.memWrite (effAddr base off) n v).advance 1

/-- STW (R228). -/
def execStw (dst : Reg) (off : Off) (imm : Imm) (s : State) : Out :=
  storeImm 4 dst off imm s

/-- STH (R228). -/
def execSth (dst : Reg) (off : Off) (imm : Imm) (s : State) : Out :=
  storeImm 2 dst off imm s

/-- STB (R228). -/
def execStb (dst : Reg) (off : Off) (imm : Imm) (s : State) : Out :=
  storeImm 1 dst off imm s

/-- STDW (R228). -/
def execStdw (dst : Reg) (off : Off) (imm : Imm) (s : State) : Out :=
  storeImm 8 dst off imm s

/-- STXW (R229). -/
def execStxw (dst src : Reg) (off : Off) (s : State) : Out :=
  storeReg 4 dst src off s

/-- STXH (R229). -/
def execStxh (dst src : Reg) (off : Off) (s : State) : Out :=
  storeReg 2 dst src off s

/-- STXB (R229). -/
def execStxb (dst src : Reg) (off : Off) (s : State) : Out :=
  storeReg 1 dst src off s

/-- STXDW (R229). -/
def execStxdw (dst src : Reg) (off : Off) (s : State) : Out :=
  storeReg 8 dst src off s

end Sys2Proof.Machine
end

