-- ==== Sys2Proof/Machine/Dispatch.lean ====
section
/-! DEFINITION. Every instruction's meaning: one arm per constructor of `Instr`, each one call. -/

namespace Sys2Proof.Machine

def exec (i : Instr) (s : State) : Host.Outcome State Fault Refusal :=
  match i with
  | .add64K dst imm => Sys2Proof.Machine.execAdd64K dst imm s
  | .add64X dst src => Sys2Proof.Machine.execAdd64X dst src s
  | .add32K dst imm => Sys2Proof.Machine.execAdd32K dst imm s
  | .add32X dst src => Sys2Proof.Machine.execAdd32X dst src s
  | .sub64K dst imm => Sys2Proof.Machine.execSub64K dst imm s
  | .sub64X dst src => Sys2Proof.Machine.execSub64X dst src s
  | .sub32K dst imm => Sys2Proof.Machine.execSub32K dst imm s
  | .sub32X dst src => Sys2Proof.Machine.execSub32X dst src s
  | .mul64K dst imm => Sys2Proof.Machine.execMul64K dst imm s
  | .mul64X dst src => Sys2Proof.Machine.execMul64X dst src s
  | .mul32K dst imm => Sys2Proof.Machine.execMul32K dst imm s
  | .mul32X dst src => Sys2Proof.Machine.execMul32X dst src s
  | .div64K dst imm => Sys2Proof.Machine.execDiv64K dst imm s
  | .div64X dst src => Sys2Proof.Machine.execDiv64X dst src s
  | .div32K dst imm => Sys2Proof.Machine.execDiv32K dst imm s
  | .div32X dst src => Sys2Proof.Machine.execDiv32X dst src s
  | .sdiv64K dst imm => Sys2Proof.Machine.execSdiv64K dst imm s
  | .sdiv64X dst src => Sys2Proof.Machine.execSdiv64X dst src s
  | .sdiv32K dst imm => Sys2Proof.Machine.execSdiv32K dst imm s
  | .sdiv32X dst src => Sys2Proof.Machine.execSdiv32X dst src s
  | .or64K dst imm => Sys2Proof.Machine.execOr64K dst imm s
  | .or64X dst src => Sys2Proof.Machine.execOr64X dst src s
  | .or32K dst imm => Sys2Proof.Machine.execOr32K dst imm s
  | .or32X dst src => Sys2Proof.Machine.execOr32X dst src s
  | .and64K dst imm => Sys2Proof.Machine.execAnd64K dst imm s
  | .and64X dst src => Sys2Proof.Machine.execAnd64X dst src s
  | .and32K dst imm => Sys2Proof.Machine.execAnd32K dst imm s
  | .and32X dst src => Sys2Proof.Machine.execAnd32X dst src s
  | .lsh64K dst imm => Sys2Proof.Machine.execLsh64K dst imm s
  | .lsh64X dst src => Sys2Proof.Machine.execLsh64X dst src s
  | .lsh32K dst imm => Sys2Proof.Machine.execLsh32K dst imm s
  | .lsh32X dst src => Sys2Proof.Machine.execLsh32X dst src s
  | .rsh64K dst imm => Sys2Proof.Machine.execRsh64K dst imm s
  | .rsh64X dst src => Sys2Proof.Machine.execRsh64X dst src s
  | .rsh32K dst imm => Sys2Proof.Machine.execRsh32K dst imm s
  | .rsh32X dst src => Sys2Proof.Machine.execRsh32X dst src s
  | .mod64K dst imm => Sys2Proof.Machine.execMod64K dst imm s
  | .mod64X dst src => Sys2Proof.Machine.execMod64X dst src s
  | .mod32K dst imm => Sys2Proof.Machine.execMod32K dst imm s
  | .mod32X dst src => Sys2Proof.Machine.execMod32X dst src s
  | .smod64K dst imm => Sys2Proof.Machine.execSmod64K dst imm s
  | .smod64X dst src => Sys2Proof.Machine.execSmod64X dst src s
  | .smod32K dst imm => Sys2Proof.Machine.execSmod32K dst imm s
  | .smod32X dst src => Sys2Proof.Machine.execSmod32X dst src s
  | .xor64K dst imm => Sys2Proof.Machine.execXor64K dst imm s
  | .xor64X dst src => Sys2Proof.Machine.execXor64X dst src s
  | .xor32K dst imm => Sys2Proof.Machine.execXor32K dst imm s
  | .xor32X dst src => Sys2Proof.Machine.execXor32X dst src s
  | .mov64K dst imm => Sys2Proof.Machine.execMov64K dst imm s
  | .mov64X dst src => Sys2Proof.Machine.execMov64X dst src s
  | .mov32K dst imm => Sys2Proof.Machine.execMov32K dst imm s
  | .mov32X dst src => Sys2Proof.Machine.execMov32X dst src s
  | .arsh64K dst imm => Sys2Proof.Machine.execArsh64K dst imm s
  | .arsh64X dst src => Sys2Proof.Machine.execArsh64X dst src s
  | .arsh32K dst imm => Sys2Proof.Machine.execArsh32K dst imm s
  | .arsh32X dst src => Sys2Proof.Machine.execArsh32X dst src s
  | .neg64 dst => Sys2Proof.Machine.execNeg64 dst s
  | .neg32 dst => Sys2Proof.Machine.execNeg32 dst s
  | .movsx64X8 dst src => Sys2Proof.Machine.execMovsx64X8 dst src s
  | .movsx64X16 dst src => Sys2Proof.Machine.execMovsx64X16 dst src s
  | .movsx64X32 dst src => Sys2Proof.Machine.execMovsx64X32 dst src s
  | .movsx64K8 dst imm => Sys2Proof.Machine.execMovsx64K8 dst imm s
  | .movsx64K16 dst imm => Sys2Proof.Machine.execMovsx64K16 dst imm s
  | .movsx64K32 dst imm => Sys2Proof.Machine.execMovsx64K32 dst imm s
  | .movsx32X8 dst src => Sys2Proof.Machine.execMovsx32X8 dst src s
  | .movsx32X16 dst src => Sys2Proof.Machine.execMovsx32X16 dst src s
  | .movsx32X32 dst src => Sys2Proof.Machine.execMovsx32X32 dst src s
  | .movsx32K8 dst imm => Sys2Proof.Machine.execMovsx32K8 dst imm s
  | .movsx32K16 dst imm => Sys2Proof.Machine.execMovsx32K16 dst imm s
  | .movsx32K32 dst imm => Sys2Proof.Machine.execMovsx32K32 dst imm s
  | .tole16 dst => Sys2Proof.Machine.execTole16 dst s
  | .tole32 dst => Sys2Proof.Machine.execTole32 dst s
  | .tole64 dst => Sys2Proof.Machine.execTole64 dst s
  | .tobe16 dst => Sys2Proof.Machine.execTobe16 dst s
  | .tobe32 dst => Sys2Proof.Machine.execTobe32 dst s
  | .tobe64 dst => Sys2Proof.Machine.execTobe64 dst s
  | .bswap16 dst => Sys2Proof.Machine.execBswap16 dst s
  | .bswap32 dst => Sys2Proof.Machine.execBswap32 dst s
  | .bswap64 dst => Sys2Proof.Machine.execBswap64 dst s
  | .ja off => Sys2Proof.Machine.execJa off s
  | .ja32 imm => Sys2Proof.Machine.execJa32 imm s
  | .jeqK dst anySrc off imm => Sys2Proof.Machine.execJeqK dst anySrc off imm s
  | .jeqX dst src off => Sys2Proof.Machine.execJeqX dst src off s
  | .jeq32K dst anySrc off imm => Sys2Proof.Machine.execJeq32K dst anySrc off imm s
  | .jeq32X dst src off => Sys2Proof.Machine.execJeq32X dst src off s
  | .jgtK dst anySrc off imm => Sys2Proof.Machine.execJgtK dst anySrc off imm s
  | .jgtX dst src off => Sys2Proof.Machine.execJgtX dst src off s
  | .jgt32K dst anySrc off imm => Sys2Proof.Machine.execJgt32K dst anySrc off imm s
  | .jgt32X dst src off => Sys2Proof.Machine.execJgt32X dst src off s
  | .jgeK dst anySrc off imm => Sys2Proof.Machine.execJgeK dst anySrc off imm s
  | .jgeX dst src off => Sys2Proof.Machine.execJgeX dst src off s
  | .jge32K dst anySrc off imm => Sys2Proof.Machine.execJge32K dst anySrc off imm s
  | .jge32X dst src off => Sys2Proof.Machine.execJge32X dst src off s
  | .jsetK dst anySrc off imm => Sys2Proof.Machine.execJsetK dst anySrc off imm s
  | .jsetX dst src off => Sys2Proof.Machine.execJsetX dst src off s
  | .jset32K dst anySrc off imm => Sys2Proof.Machine.execJset32K dst anySrc off imm s
  | .jset32X dst src off => Sys2Proof.Machine.execJset32X dst src off s
  | .jneK dst anySrc off imm => Sys2Proof.Machine.execJneK dst anySrc off imm s
  | .jneX dst src off => Sys2Proof.Machine.execJneX dst src off s
  | .jne32K dst anySrc off imm => Sys2Proof.Machine.execJne32K dst anySrc off imm s
  | .jne32X dst src off => Sys2Proof.Machine.execJne32X dst src off s
  | .jsgtK dst anySrc off imm => Sys2Proof.Machine.execJsgtK dst anySrc off imm s
  | .jsgtX dst src off => Sys2Proof.Machine.execJsgtX dst src off s
  | .jsgt32K dst anySrc off imm => Sys2Proof.Machine.execJsgt32K dst anySrc off imm s
  | .jsgt32X dst src off => Sys2Proof.Machine.execJsgt32X dst src off s
  | .jsgeK dst anySrc off imm => Sys2Proof.Machine.execJsgeK dst anySrc off imm s
  | .jsgeX dst src off => Sys2Proof.Machine.execJsgeX dst src off s
  | .jsge32K dst anySrc off imm => Sys2Proof.Machine.execJsge32K dst anySrc off imm s
  | .jsge32X dst src off => Sys2Proof.Machine.execJsge32X dst src off s
  | .jltK dst anySrc off imm => Sys2Proof.Machine.execJltK dst anySrc off imm s
  | .jltX dst src off => Sys2Proof.Machine.execJltX dst src off s
  | .jlt32K dst anySrc off imm => Sys2Proof.Machine.execJlt32K dst anySrc off imm s
  | .jlt32X dst src off => Sys2Proof.Machine.execJlt32X dst src off s
  | .jleK dst anySrc off imm => Sys2Proof.Machine.execJleK dst anySrc off imm s
  | .jleX dst src off => Sys2Proof.Machine.execJleX dst src off s
  | .jle32K dst anySrc off imm => Sys2Proof.Machine.execJle32K dst anySrc off imm s
  | .jle32X dst src off => Sys2Proof.Machine.execJle32X dst src off s
  | .jsltK dst anySrc off imm => Sys2Proof.Machine.execJsltK dst anySrc off imm s
  | .jsltX dst src off => Sys2Proof.Machine.execJsltX dst src off s
  | .jslt32K dst anySrc off imm => Sys2Proof.Machine.execJslt32K dst anySrc off imm s
  | .jslt32X dst src off => Sys2Proof.Machine.execJslt32X dst src off s
  | .jsleK dst anySrc off imm => Sys2Proof.Machine.execJsleK dst anySrc off imm s
  | .jsleX dst src off => Sys2Proof.Machine.execJsleX dst src off s
  | .jsle32K dst anySrc off imm => Sys2Proof.Machine.execJsle32K dst anySrc off imm s
  | .jsle32X dst src off => Sys2Proof.Machine.execJsle32X dst src off s
  | .callHelper id => Sys2Proof.Machine.execCallHelper id s
  | .callLocal imm => Sys2Proof.Machine.execCallLocal imm s
  | .callBtf id => Sys2Proof.Machine.execCallBtf id s
  | .exit => Sys2Proof.Machine.execExit s
  | .ldxw dst src off => Sys2Proof.Machine.execLdxw dst src off s
  | .ldxh dst src off => Sys2Proof.Machine.execLdxh dst src off s
  | .ldxb dst src off => Sys2Proof.Machine.execLdxb dst src off s
  | .ldxdw dst src off => Sys2Proof.Machine.execLdxdw dst src off s
  | .stw dst off imm => Sys2Proof.Machine.execStw dst off imm s
  | .sth dst off imm => Sys2Proof.Machine.execSth dst off imm s
  | .stb dst off imm => Sys2Proof.Machine.execStb dst off imm s
  | .stdw dst off imm => Sys2Proof.Machine.execStdw dst off imm s
  | .stxw dst src off => Sys2Proof.Machine.execStxw dst src off s
  | .stxh dst src off => Sys2Proof.Machine.execStxh dst src off s
  | .stxb dst src off => Sys2Proof.Machine.execStxb dst src off s
  | .stxdw dst src off => Sys2Proof.Machine.execStxdw dst src off s
  | .ldxsw dst src off => Sys2Proof.Machine.execLdxsw dst src off s
  | .ldxsh dst src off => Sys2Proof.Machine.execLdxsh dst src off s
  | .ldxsb dst src off => Sys2Proof.Machine.execLdxsb dst src off s
  | .lddw dst imm nextImm => Sys2Proof.Machine.execLddw dst imm nextImm s
  | .lddwSubtype1 dst imm nextImm => Sys2Proof.Machine.execLddwSubtype1 dst imm nextImm s
  | .lddwSubtype2 dst imm nextImm => Sys2Proof.Machine.execLddwSubtype2 dst imm nextImm s
  | .lddwSubtype3 dst imm nextImm => Sys2Proof.Machine.execLddwSubtype3 dst imm nextImm s
  | .lddwSubtype4 dst imm nextImm => Sys2Proof.Machine.execLddwSubtype4 dst imm nextImm s
  | .lddwSubtype5 dst imm nextImm => Sys2Proof.Machine.execLddwSubtype5 dst imm nextImm s
  | .lddwSubtype6 dst imm nextImm => Sys2Proof.Machine.execLddwSubtype6 dst imm nextImm s
  | .atomic32Add dst src off => Sys2Proof.Machine.execAtomic32Add dst src off s
  | .atomic32Or dst src off => Sys2Proof.Machine.execAtomic32Or dst src off s
  | .atomic32And dst src off => Sys2Proof.Machine.execAtomic32And dst src off s
  | .atomic32Xor dst src off => Sys2Proof.Machine.execAtomic32Xor dst src off s
  | .atomic32FetchAdd dst src off => Sys2Proof.Machine.execAtomic32FetchAdd dst src off s
  | .atomic32FetchOr dst src off => Sys2Proof.Machine.execAtomic32FetchOr dst src off s
  | .atomic32FetchAnd dst src off => Sys2Proof.Machine.execAtomic32FetchAnd dst src off s
  | .atomic32FetchXor dst src off => Sys2Proof.Machine.execAtomic32FetchXor dst src off s
  | .atomic32Xchg dst src off => Sys2Proof.Machine.execAtomic32Xchg dst src off s
  | .atomic32Cmpxchg dst src off => Sys2Proof.Machine.execAtomic32Cmpxchg dst src off s
  | .atomic64Add dst src off => Sys2Proof.Machine.execAtomic64Add dst src off s
  | .atomic64Or dst src off => Sys2Proof.Machine.execAtomic64Or dst src off s
  | .atomic64And dst src off => Sys2Proof.Machine.execAtomic64And dst src off s
  | .atomic64Xor dst src off => Sys2Proof.Machine.execAtomic64Xor dst src off s
  | .atomic64FetchAdd dst src off => Sys2Proof.Machine.execAtomic64FetchAdd dst src off s
  | .atomic64FetchOr dst src off => Sys2Proof.Machine.execAtomic64FetchOr dst src off s
  | .atomic64FetchAnd dst src off => Sys2Proof.Machine.execAtomic64FetchAnd dst src off s
  | .atomic64FetchXor dst src off => Sys2Proof.Machine.execAtomic64FetchXor dst src off s
  | .atomic64Xchg dst src off => Sys2Proof.Machine.execAtomic64Xchg dst src off s
  | .atomic64Cmpxchg dst src off => Sys2Proof.Machine.execAtomic64Cmpxchg dst src off s
  | .ldabsw rest => Sys2Proof.Machine.execLdabsw rest s
  | .ldabsh rest => Sys2Proof.Machine.execLdabsh rest s
  | .ldabsb rest => Sys2Proof.Machine.execLdabsb rest s
  | .ldindw rest => Sys2Proof.Machine.execLdindw rest s
  | .ldindh rest => Sys2Proof.Machine.execLdindh rest s
  | .ldindb rest => Sys2Proof.Machine.execLdindb rest s

end Sys2Proof.Machine
end

