-- ==== Sys2Proof/Machine/Fetch.lean ====
section
/-! DEFINITION. Fetching and decoding the instruction at `pc` (R27, R33, R86, R262), and placing slots in the program
text from outside. The machine decodes at fetch, which R86 allows; `launch` (Machine/Launch.lean) is the check of the
whole program before it runs. -/

namespace Sys2Proof.Machine

/-- Why no instruction executes in this state: a fault is recorded (R35) or the run is over (R206, R296). -/
def State.halted (s : State) : Option Fault :=
  match s.fault with
  | some f => some (.runFaulted f)
  | none =>
    match s.result with
    | some _ => some .runEnded
    | none => none

/-- What fetching finds. -/
inductive Fetched where
  | run (i : Instr)
  | raises (f : FaultRecord)
  | refuses (r : Refusal)
deriving DecidableEq, Repr

/-- Decoding the slots from `pc` on: `IllegalInstruction` for a reserved encoding, a refusal for a load or store class
that the profile refuses (R262). -/
def fetchFrom (p : Params) (pc : Nat) (slots : List Slot) : Fetched :=
  match slots with
  | [] => .raises (.badJumpTarget pc pc)
  | x :: rest =>
    match decode p (x :: rest) with
    | .ok (i, _) => .run i
    | .error .loadStoreClass => .refuses .loadStoreClass
    | .error _ => .raises (.illegalInstruction pc (x.fields p.hostEndian).word)

/-- The instruction at `pc`. A `pc` outside the program, or on a second half, which no run reaches but an empty program
starts with, is a failed fetch (R267); a second half is never decoded as an instruction (R87). Log entry 6. -/
def State.fetch (s : State) : Fetched :=
  if s.validSlot s.pc then fetchFrom s.params s.pc (s.prog.drop s.pc) else .raises (.badJumpTarget s.pc s.pc)

/-- A slot of zeros. -/
def zeroSlot : Slot := ⟨0, 0, 0, 0, 0, 0, 0, 0⟩

/-- The program with these slots from slot `pc` on, slots of zeros standing where it was shorter. -/
def placeSlots (prog : List Slot) (pc : Nat) (new : List Slot) : List Slot :=
  prog.take pc ++ List.replicate (pc - prog.length) zeroSlot ++ new ++ prog.drop (pc + new.length)

/-- The state with an instruction's bits, numbered as the opcode table numbers them, at `pc`, and running. -/
def placeWord (s : State) (nbits w : Nat) : State :=
  { s with
    prog := placeSlots s.prog s.pc (tableSlots s.params.hostEndian nbits w)
    fault := none
    result := none }

end Sys2Proof.Machine
end

