-- ==== Sys2Proof/Machine/Launch.lean ====
section
/-! DEFINITION. What the host does before slot 0 runs (R36, R86, R292): it has the whole program decoded, front to back,
and refuses an ill-formed one; it writes the entry registers and sets the launch contents of memory. -/

namespace Sys2Proof.Machine

/-- R86: decode the program front to back; `skip` says that the next slot is a second half, which is never decoded
(R87). The answer is why the model refuses the program: a reserved encoding (R86), a load or store class that the
profile refuses (R223), or a legacy packet load (R235). -/
def checkFrom (p : Params) (skip : Bool) : List Slot → Option Refusal
  | [] => none
  | x :: rest =>
    if skip then checkFrom p false rest
    else
      match decode p (x :: rest) with
      | .error .loadStoreClass => some .loadStoreClass
      | .error _ => some .illFormedProgram
      | .ok (i, _) => if i.isLegacy then some .legacyPacketLoad else checkFrom p (i.slots == 2) rest

/-- Why a program is refused before it runs, if it is (R86). -/
def programProblem (p : Params) (prog : List Slot) : Option Refusal := checkFrom p false prog

/-- A register file in which nothing is written (R36). -/
def Regs.blank : Regs where
  r0 := .unwritten
  r1 := .unwritten
  r2 := .unwritten
  r3 := .unwritten
  r4 := .unwritten
  r5 := .unwritten
  r6 := .unwritten
  r7 := .unwritten
  r8 := .unwritten
  r9 := .unwritten
  r10 := .unwritten

/-- The registers of `ENTRY_REGS` written, every other one unwritten (R5, R36). -/
def entryRegs : List (Reg × Word) → Regs
  | [] => Regs.blank
  | (r, v) :: rest => (entryRegs rest).set r (.written v)

/-- The launch contents the host gives (R36): bytes below 2^64, put in canonical form. -/
def entryMem (cells : List Host.Cell) : Memory := Memory.storeCells [] (cells.filter fun c => decide (c.1 < 2 ^ 64))

/-- The entry state of R36 and R290. -/
def State.entry (p : Params) (prog : List Slot) (regs : List (Reg × Word)) (cells : List Host.Cell) : State where
  params := p
  prog := prog
  pc := 0
  regs := entryRegs regs
  stack := []
  fault := none
  result := none
  mem := entryMem cells
  draws := 0

/-- Starting a program (R86, R290, R292): the entry state, or the refusal of the program. -/
def State.launch (p : Params) (prog : List Slot) (regs : List (Reg × Word)) (cells : List Host.Cell) : Out :=
  match programProblem p prog with
  | some r => .refused r
  | none => .next (State.entry p prog regs cells)

end Sys2Proof.Machine
end

