-- ==== Sys2Proof/Machine/Step.lean ====
section
/-! DEFINITION. One step: one instruction (R294). -/

namespace Sys2Proof.Machine

/-- R294: fetch and decode the instruction at `pc` and execute it. No step exists once a fault is recorded or the run is
over (R35, R296). -/
def step (s : State) : Host.Outcome State Fault Refusal :=
  match s.halted with
  | some f => .fault f
  | none =>
    match s.fetch with
    | .run i => exec i s
    | .raises f => s.raise f
    | .refuses r => .refused r

/-- The state with the bits `w` of an instruction where the next step fetches it (log entry 5). -/
def State.withFetchWord (s : State) (nbits w : Nat) : State := placeWord s nbits w

end Sys2Proof.Machine
end

