-- ==== Sys2Proof/Safety.lean ====
section
/-! DEFINITION. What a good state and a good run are, and the classes of instructions, in the terms the statements
use. -/

namespace Sys2Proof.Machine

/-- The machine can take a step: no fault recorded, the run not over (R35, R296). -/
def State.Running (s : State) : Prop := s.fault = none ∧ s.result = none

/-- What every step keeps: memory in canonical form, the call stack no deeper than `MAX_CALL_DEPTH` (R32, R212), and
never both a fault and a result (R206, R260: a faulted state is not final and has no result). -/
def State.Inv (s : State) : Prop :=
  Memory.wf s.mem = true ∧ s.stack.length ≤ s.params.maxCallDepth ∧ (s.fault = none ∨ s.result = none)

/-- A target that R163 lets an instruction go to: a slot of the program, not a second half. -/
abbrev State.Lands (s : State) (t : Int) : Prop :=
  0 ≤ t ∧ t < (s.prog.length : Int) ∧ isSecondHalf s.prog t.toNat = false

/-- `pc` is a slot of the program and the first half of an instruction (R27, R28, R188, R190). -/
def State.PcInv (s : State) : Prop := s.Lands (s.pc : Int)

/-- The program passes the load-time check (R86). -/
def State.Checked (s : State) : Prop := programProblem s.params s.prog = none

/-- The register holds a value (R26). -/
def State.Written (s : State) (r : Reg) : Prop := ∃ v, s.regs.get r = .written v

/-- How an instruction that starts in `s`, has had the effects in `u` and goes to slot `t` ends: at `t` where R163 lets
it, with `BadJumpTarget` recorded and its effects kept where not (R190, R267, R269). -/
def State.GoesTo (s u : State) (t : Int) (o : Out) : Prop :=
  (s.Lands t → o = .next { u with pc := t.toNat }) ∧
    (¬ s.Lands t → o = .next { u with fault := some (.badJumpTarget s.pc t) })

/-- The same, going on at the next slot (R28). -/
def State.GoesOn (s u : State) (o : Out) : Prop := s.GoesTo u ((s.pc : Int) + 1) o

/-- A conditional jump whose condition is `c` (R163): nothing but `pc` changes. -/
def State.JumpsIf (s : State) (c : Prop) (off : Off) (o : Out) : Prop :=
  (c → s.GoesTo s ((s.pc : Int) + 1 + off.toInt) o) ∧ (¬ c → s.GoesOn s o)

/-- The same state with a fault recorded (R35, R260). -/
def State.faulted (s : State) (f : FaultRecord) : State := { s with fault := some f }

/-- An access that R231 and R44 admit. -/
def State.Admitted (s : State) (acc : Access) (ea : Word) (n : Nat) : Prop :=
  (∃ r ∈ s.params.regions, r.base ≤ ea.toNat ∧ ea.toNat + n ≤ r.base + r.size ∧ ea.toNat + n ≤ 2 ^ 64 ∧
    Region.permits r acc = true) ∧
  (s.params.allowMisaligned = true ∨ ea.toNat % n = 0)

/-- No byte of the access is shared (R48). -/
def State.Unshared (s : State) (ea : Word) (n : Nat) : Prop := ∀ k < n, s.shared (ea.toNat + k) = false

/-- The byte of a value that the host keeps at the `k`-th address of its `n` bytes (R42). -/
def hostByte (e : Endian) (n : Nat) (v : Word) (k : Nat) : Byte :=
  match e with
  | .little => v.extractLsb' (8 * k) 8
  | .big => v.extractLsb' (8 * (n - 1 - k)) 8

end Sys2Proof.Machine

namespace Sys2Proof

/-- The instructions of classes ALU and ALU64, END included (R74). -/
def Instr.isArith : Instr → Bool
  | .add64K _ _ | .add64X _ _ | .add32K _ _ | .add32X _ _ | .sub64K _ _ | .sub64X _ _ | .sub32K _ _ | .sub32X _ _
  | .mul64K _ _ | .mul64X _ _ | .mul32K _ _ | .mul32X _ _ | .div64K _ _ | .div64X _ _ | .div32K _ _ | .div32X _ _
  | .sdiv64K _ _ | .sdiv64X _ _ | .sdiv32K _ _ | .sdiv32X _ _ | .or64K _ _ | .or64X _ _ | .or32K _ _ | .or32X _ _
  | .and64K _ _ | .and64X _ _ | .and32K _ _ | .and32X _ _ | .lsh64K _ _ | .lsh64X _ _ | .lsh32K _ _ | .lsh32X _ _
  | .rsh64K _ _ | .rsh64X _ _ | .rsh32K _ _ | .rsh32X _ _ | .mod64K _ _ | .mod64X _ _ | .mod32K _ _ | .mod32X _ _
  | .smod64K _ _ | .smod64X _ _ | .smod32K _ _ | .smod32X _ _ | .xor64K _ _ | .xor64X _ _ | .xor32K _ _
  | .xor32X _ _ | .mov64K _ _ | .mov64X _ _ | .mov32K _ _ | .mov32X _ _ | .arsh64K _ _ | .arsh64X _ _
  | .arsh32K _ _ | .arsh32X _ _ | .neg64 _ | .neg32 _ | .movsx64X8 _ _ | .movsx64X16 _ _ | .movsx64X32 _ _
  | .movsx64K8 _ _ | .movsx64K16 _ _ | .movsx64K32 _ _ | .movsx32X8 _ _ | .movsx32X16 _ _ | .movsx32X32 _ _
  | .movsx32K8 _ _ | .movsx32K16 _ _ | .movsx32K32 _ _ | .tole16 _ | .tole32 _ | .tole64 _ | .tobe16 _ | .tobe32 _
  | .tobe64 _ | .bswap16 _ | .bswap32 _ | .bswap64 _ => true
  | .ja _ | .ja32 _ | .jeqK _ _ _ _ | .jeqX _ _ _ | .jeq32K _ _ _ _ | .jeq32X _ _ _ | .jgtK _ _ _ _ | .jgtX _ _ _
  | .jgt32K _ _ _ _ | .jgt32X _ _ _ | .jgeK _ _ _ _ | .jgeX _ _ _ | .jge32K _ _ _ _ | .jge32X _ _ _
  | .jsetK _ _ _ _ | .jsetX _ _ _ | .jset32K _ _ _ _ | .jset32X _ _ _ | .jneK _ _ _ _ | .jneX _ _ _
  | .jne32K _ _ _ _ | .jne32X _ _ _ | .jsgtK _ _ _ _ | .jsgtX _ _ _ | .jsgt32K _ _ _ _ | .jsgt32X _ _ _
  | .jsgeK _ _ _ _ | .jsgeX _ _ _ | .jsge32K _ _ _ _ | .jsge32X _ _ _ | .jltK _ _ _ _ | .jltX _ _ _
  | .jlt32K _ _ _ _ | .jlt32X _ _ _ | .jleK _ _ _ _ | .jleX _ _ _ | .jle32K _ _ _ _ | .jle32X _ _ _
  | .jsltK _ _ _ _ | .jsltX _ _ _ | .jslt32K _ _ _ _ | .jslt32X _ _ _ | .jsleK _ _ _ _ | .jsleX _ _ _
  | .jsle32K _ _ _ _ | .jsle32X _ _ _ | .callHelper _ | .callLocal _ | .callBtf _ | .exit | .ldxw _ _ _
  | .ldxh _ _ _ | .ldxb _ _ _ | .ldxdw _ _ _ | .stw _ _ _ | .sth _ _ _ | .stb _ _ _ | .stdw _ _ _ | .stxw _ _ _
  | .stxh _ _ _ | .stxb _ _ _ | .stxdw _ _ _ | .ldxsw _ _ _ | .ldxsh _ _ _ | .ldxsb _ _ _ | .lddw _ _ _
  | .lddwSubtype1 _ _ _ | .lddwSubtype2 _ _ _ | .lddwSubtype3 _ _ _ | .lddwSubtype4 _ _ _ | .lddwSubtype5 _ _ _
  | .lddwSubtype6 _ _ _ | .atomic32Add _ _ _ | .atomic32Or _ _ _ | .atomic32And _ _ _ | .atomic32Xor _ _ _
  | .atomic32FetchAdd _ _ _ | .atomic32FetchOr _ _ _ | .atomic32FetchAnd _ _ _ | .atomic32FetchXor _ _ _
  | .atomic32Xchg _ _ _ | .atomic32Cmpxchg _ _ _ | .atomic64Add _ _ _ | .atomic64Or _ _ _ | .atomic64And _ _ _
  | .atomic64Xor _ _ _ | .atomic64FetchAdd _ _ _ | .atomic64FetchOr _ _ _ | .atomic64FetchAnd _ _ _
  | .atomic64FetchXor _ _ _ | .atomic64Xchg _ _ _ | .atomic64Cmpxchg _ _ _ | .ldabsw _ | .ldabsh _ | .ldabsb _
  | .ldindw _ | .ldindh _ | .ldindb _ => false

/-- JA, JA32 and the conditional jumps (R75, without CALL and EXIT). -/
def Instr.isJump : Instr → Bool
  | .ja _ | .ja32 _ | .jeqK _ _ _ _ | .jeqX _ _ _ | .jeq32K _ _ _ _ | .jeq32X _ _ _ | .jgtK _ _ _ _ | .jgtX _ _ _
  | .jgt32K _ _ _ _ | .jgt32X _ _ _ | .jgeK _ _ _ _ | .jgeX _ _ _ | .jge32K _ _ _ _ | .jge32X _ _ _
  | .jsetK _ _ _ _ | .jsetX _ _ _ | .jset32K _ _ _ _ | .jset32X _ _ _ | .jneK _ _ _ _ | .jneX _ _ _
  | .jne32K _ _ _ _ | .jne32X _ _ _ | .jsgtK _ _ _ _ | .jsgtX _ _ _ | .jsgt32K _ _ _ _ | .jsgt32X _ _ _
  | .jsgeK _ _ _ _ | .jsgeX _ _ _ | .jsge32K _ _ _ _ | .jsge32X _ _ _ | .jltK _ _ _ _ | .jltX _ _ _
  | .jlt32K _ _ _ _ | .jlt32X _ _ _ | .jleK _ _ _ _ | .jleX _ _ _ | .jle32K _ _ _ _ | .jle32X _ _ _
  | .jsltK _ _ _ _ | .jsltX _ _ _ | .jslt32K _ _ _ _ | .jslt32X _ _ _ | .jsleK _ _ _ _ | .jsleX _ _ _
  | .jsle32K _ _ _ _ | .jsle32X _ _ _ => true
  | .add64K _ _ | .add64X _ _ | .add32K _ _ | .add32X _ _ | .sub64K _ _ | .sub64X _ _ | .sub32K _ _ | .sub32X _ _
  | .mul64K _ _ | .mul64X _ _ | .mul32K _ _ | .mul32X _ _ | .div64K _ _ | .div64X _ _ | .div32K _ _ | .div32X _ _
  | .sdiv64K _ _ | .sdiv64X _ _ | .sdiv32K _ _ | .sdiv32X _ _ | .or64K _ _ | .or64X _ _ | .or32K _ _ | .or32X _ _
  | .and64K _ _ | .and64X _ _ | .and32K _ _ | .and32X _ _ | .lsh64K _ _ | .lsh64X _ _ | .lsh32K _ _ | .lsh32X _ _
  | .rsh64K _ _ | .rsh64X _ _ | .rsh32K _ _ | .rsh32X _ _ | .mod64K _ _ | .mod64X _ _ | .mod32K _ _ | .mod32X _ _
  | .smod64K _ _ | .smod64X _ _ | .smod32K _ _ | .smod32X _ _ | .xor64K _ _ | .xor64X _ _ | .xor32K _ _
  | .xor32X _ _ | .mov64K _ _ | .mov64X _ _ | .mov32K _ _ | .mov32X _ _ | .arsh64K _ _ | .arsh64X _ _
  | .arsh32K _ _ | .arsh32X _ _ | .neg64 _ | .neg32 _ | .movsx64X8 _ _ | .movsx64X16 _ _ | .movsx64X32 _ _
  | .movsx64K8 _ _ | .movsx64K16 _ _ | .movsx64K32 _ _ | .movsx32X8 _ _ | .movsx32X16 _ _ | .movsx32X32 _ _
  | .movsx32K8 _ _ | .movsx32K16 _ _ | .movsx32K32 _ _ | .tole16 _ | .tole32 _ | .tole64 _ | .tobe16 _ | .tobe32 _
  | .tobe64 _ | .bswap16 _ | .bswap32 _ | .bswap64 _ | .callHelper _ | .callLocal _ | .callBtf _ | .exit
  | .ldxw _ _ _ | .ldxh _ _ _ | .ldxb _ _ _ | .ldxdw _ _ _ | .stw _ _ _ | .sth _ _ _ | .stb _ _ _ | .stdw _ _ _
  | .stxw _ _ _ | .stxh _ _ _ | .stxb _ _ _ | .stxdw _ _ _ | .ldxsw _ _ _ | .ldxsh _ _ _ | .ldxsb _ _ _
  | .lddw _ _ _ | .lddwSubtype1 _ _ _ | .lddwSubtype2 _ _ _ | .lddwSubtype3 _ _ _ | .lddwSubtype4 _ _ _
  | .lddwSubtype5 _ _ _ | .lddwSubtype6 _ _ _ | .atomic32Add _ _ _ | .atomic32Or _ _ _ | .atomic32And _ _ _
  | .atomic32Xor _ _ _ | .atomic32FetchAdd _ _ _ | .atomic32FetchOr _ _ _ | .atomic32FetchAnd _ _ _
  | .atomic32FetchXor _ _ _ | .atomic32Xchg _ _ _ | .atomic32Cmpxchg _ _ _ | .atomic64Add _ _ _ | .atomic64Or _ _ _
  | .atomic64And _ _ _ | .atomic64Xor _ _ _ | .atomic64FetchAdd _ _ _ | .atomic64FetchOr _ _ _
  | .atomic64FetchAnd _ _ _ | .atomic64FetchXor _ _ _ | .atomic64Xchg _ _ _ | .atomic64Cmpxchg _ _ _ | .ldabsw _
  | .ldabsh _ | .ldabsb _ | .ldindw _ | .ldindh _ | .ldindb _ => false

/-- The stores and the atomic operations (R228, R229, R240). -/
def Instr.isStore : Instr → Bool
  | .stw _ _ _ | .sth _ _ _ | .stb _ _ _ | .stdw _ _ _ | .stxw _ _ _ | .stxh _ _ _ | .stxb _ _ _ | .stxdw _ _ _
  | .atomic32Add _ _ _ | .atomic32Or _ _ _ | .atomic32And _ _ _ | .atomic32Xor _ _ _ | .atomic32FetchAdd _ _ _
  | .atomic32FetchOr _ _ _ | .atomic32FetchAnd _ _ _ | .atomic32FetchXor _ _ _ | .atomic32Xchg _ _ _
  | .atomic32Cmpxchg _ _ _ | .atomic64Add _ _ _ | .atomic64Or _ _ _ | .atomic64And _ _ _ | .atomic64Xor _ _ _
  | .atomic64FetchAdd _ _ _ | .atomic64FetchOr _ _ _ | .atomic64FetchAnd _ _ _ | .atomic64FetchXor _ _ _
  | .atomic64Xchg _ _ _ | .atomic64Cmpxchg _ _ _ => true
  | .add64K _ _ | .add64X _ _ | .add32K _ _ | .add32X _ _ | .sub64K _ _ | .sub64X _ _ | .sub32K _ _ | .sub32X _ _
  | .mul64K _ _ | .mul64X _ _ | .mul32K _ _ | .mul32X _ _ | .div64K _ _ | .div64X _ _ | .div32K _ _ | .div32X _ _
  | .sdiv64K _ _ | .sdiv64X _ _ | .sdiv32K _ _ | .sdiv32X _ _ | .or64K _ _ | .or64X _ _ | .or32K _ _ | .or32X _ _
  | .and64K _ _ | .and64X _ _ | .and32K _ _ | .and32X _ _ | .lsh64K _ _ | .lsh64X _ _ | .lsh32K _ _ | .lsh32X _ _
  | .rsh64K _ _ | .rsh64X _ _ | .rsh32K _ _ | .rsh32X _ _ | .mod64K _ _ | .mod64X _ _ | .mod32K _ _ | .mod32X _ _
  | .smod64K _ _ | .smod64X _ _ | .smod32K _ _ | .smod32X _ _ | .xor64K _ _ | .xor64X _ _ | .xor32K _ _
  | .xor32X _ _ | .mov64K _ _ | .mov64X _ _ | .mov32K _ _ | .mov32X _ _ | .arsh64K _ _ | .arsh64X _ _
  | .arsh32K _ _ | .arsh32X _ _ | .neg64 _ | .neg32 _ | .movsx64X8 _ _ | .movsx64X16 _ _ | .movsx64X32 _ _
  | .movsx64K8 _ _ | .movsx64K16 _ _ | .movsx64K32 _ _ | .movsx32X8 _ _ | .movsx32X16 _ _ | .movsx32X32 _ _
  | .movsx32K8 _ _ | .movsx32K16 _ _ | .movsx32K32 _ _ | .tole16 _ | .tole32 _ | .tole64 _ | .tobe16 _ | .tobe32 _
  | .tobe64 _ | .bswap16 _ | .bswap32 _ | .bswap64 _ | .ja _ | .ja32 _ | .jeqK _ _ _ _ | .jeqX _ _ _
  | .jeq32K _ _ _ _ | .jeq32X _ _ _ | .jgtK _ _ _ _ | .jgtX _ _ _ | .jgt32K _ _ _ _ | .jgt32X _ _ _ | .jgeK _ _ _ _
  | .jgeX _ _ _ | .jge32K _ _ _ _ | .jge32X _ _ _ | .jsetK _ _ _ _ | .jsetX _ _ _ | .jset32K _ _ _ _
  | .jset32X _ _ _ | .jneK _ _ _ _ | .jneX _ _ _ | .jne32K _ _ _ _ | .jne32X _ _ _ | .jsgtK _ _ _ _ | .jsgtX _ _ _
  | .jsgt32K _ _ _ _ | .jsgt32X _ _ _ | .jsgeK _ _ _ _ | .jsgeX _ _ _ | .jsge32K _ _ _ _ | .jsge32X _ _ _
  | .jltK _ _ _ _ | .jltX _ _ _ | .jlt32K _ _ _ _ | .jlt32X _ _ _ | .jleK _ _ _ _ | .jleX _ _ _ | .jle32K _ _ _ _
  | .jle32X _ _ _ | .jsltK _ _ _ _ | .jsltX _ _ _ | .jslt32K _ _ _ _ | .jslt32X _ _ _ | .jsleK _ _ _ _
  | .jsleX _ _ _ | .jsle32K _ _ _ _ | .jsle32X _ _ _ | .callHelper _ | .callLocal _ | .callBtf _ | .exit
  | .ldxw _ _ _ | .ldxh _ _ _ | .ldxb _ _ _ | .ldxdw _ _ _ | .ldxsw _ _ _ | .ldxsh _ _ _ | .ldxsb _ _ _
  | .lddw _ _ _ | .lddwSubtype1 _ _ _ | .lddwSubtype2 _ _ _ | .lddwSubtype3 _ _ _ | .lddwSubtype4 _ _ _
  | .lddwSubtype5 _ _ _ | .lddwSubtype6 _ _ _ | .ldabsw _ | .ldabsh _ | .ldabsb _ | .ldindw _ | .ldindh _
  | .ldindb _ => false

/-- The registers an instruction reads, in the order it reads them (R26, R267); those a helper reads are the helper's
own (R201). -/
def Instr.reads : Instr → List Reg
  | .add64K dst _ | .add32K dst _ | .sub64K dst _ | .sub32K dst _ | .mul64K dst _ | .mul32K dst _ | .div64K dst _
  | .div32K dst _ | .sdiv64K dst _ | .sdiv32K dst _ | .or64K dst _ | .or32K dst _ | .and64K dst _ | .and32K dst _
  | .lsh64K dst _ | .lsh32K dst _ | .rsh64K dst _ | .rsh32K dst _ | .mod64K dst _ | .mod32K dst _ | .smod64K dst _
  | .smod32K dst _ | .xor64K dst _ | .xor32K dst _ | .arsh64K dst _ | .arsh32K dst _ | .neg64 dst | .neg32 dst
  | .tole16 dst | .tole32 dst | .tole64 dst | .tobe16 dst | .tobe32 dst | .tobe64 dst | .bswap16 dst | .bswap32 dst
  | .bswap64 dst | .jeqK dst _ _ _ | .jeq32K dst _ _ _ | .jgtK dst _ _ _ | .jgt32K dst _ _ _ | .jgeK dst _ _ _
  | .jge32K dst _ _ _ | .jsetK dst _ _ _ | .jset32K dst _ _ _ | .jneK dst _ _ _ | .jne32K dst _ _ _
  | .jsgtK dst _ _ _ | .jsgt32K dst _ _ _ | .jsgeK dst _ _ _ | .jsge32K dst _ _ _ | .jltK dst _ _ _
  | .jlt32K dst _ _ _ | .jleK dst _ _ _ | .jle32K dst _ _ _ | .jsltK dst _ _ _ | .jslt32K dst _ _ _
  | .jsleK dst _ _ _ | .jsle32K dst _ _ _ | .stw dst _ _ | .sth dst _ _ | .stb dst _ _ | .stdw dst _ _ => [dst]
  | .add64X dst src | .add32X dst src | .sub64X dst src | .sub32X dst src | .mul64X dst src | .mul32X dst src
  | .div64X dst src | .div32X dst src | .sdiv64X dst src | .sdiv32X dst src | .or64X dst src | .or32X dst src
  | .and64X dst src | .and32X dst src | .lsh64X dst src | .lsh32X dst src | .rsh64X dst src | .rsh32X dst src
  | .mod64X dst src | .mod32X dst src | .smod64X dst src | .smod32X dst src | .xor64X dst src | .xor32X dst src
  | .arsh64X dst src | .arsh32X dst src | .jeqX dst src _ | .jeq32X dst src _ | .jgtX dst src _ | .jgt32X dst src _
  | .jgeX dst src _ | .jge32X dst src _ | .jsetX dst src _ | .jset32X dst src _ | .jneX dst src _
  | .jne32X dst src _ | .jsgtX dst src _ | .jsgt32X dst src _ | .jsgeX dst src _ | .jsge32X dst src _
  | .jltX dst src _ | .jlt32X dst src _ | .jleX dst src _ | .jle32X dst src _ | .jsltX dst src _
  | .jslt32X dst src _ | .jsleX dst src _ | .jsle32X dst src _ | .stxw dst src _ | .stxh dst src _
  | .stxb dst src _ | .stxdw dst src _ | .atomic32Add dst src _ | .atomic32Or dst src _ | .atomic32And dst src _
  | .atomic32Xor dst src _ | .atomic32FetchAdd dst src _ | .atomic32FetchOr dst src _ | .atomic32FetchAnd dst src _
  | .atomic32FetchXor dst src _ | .atomic32Xchg dst src _ | .atomic64Add dst src _ | .atomic64Or dst src _
  | .atomic64And dst src _ | .atomic64Xor dst src _ | .atomic64FetchAdd dst src _ | .atomic64FetchOr dst src _
  | .atomic64FetchAnd dst src _ | .atomic64FetchXor dst src _ | .atomic64Xchg dst src _ => [dst, src]
  | .mov64K _ _ | .mov32K _ _ | .movsx64K8 _ _ | .movsx64K16 _ _ | .movsx64K32 _ _ | .movsx32K8 _ _
  | .movsx32K16 _ _ | .movsx32K32 _ _ | .ja _ | .ja32 _ | .callHelper _ | .callBtf _ | .lddw _ _ _
  | .lddwSubtype1 _ _ _ | .lddwSubtype2 _ _ _ | .lddwSubtype3 _ _ _ | .lddwSubtype4 _ _ _ | .lddwSubtype5 _ _ _
  | .lddwSubtype6 _ _ _ | .ldabsw _ | .ldabsh _ | .ldabsb _ | .ldindw _ | .ldindh _ | .ldindb _ => []
  | .mov64X _ src | .mov32X _ src | .movsx64X8 _ src | .movsx64X16 _ src | .movsx64X32 _ src | .movsx32X8 _ src
  | .movsx32X16 _ src | .movsx32X32 _ src | .ldxw _ src _ | .ldxh _ src _ | .ldxb _ src _ | .ldxdw _ src _
  | .ldxsw _ src _ | .ldxsh _ src _ | .ldxsb _ src _ => [src]
  | .callLocal _ => [.r10]
  | .exit => [.r0]
  | .atomic32Cmpxchg dst src _ | .atomic64Cmpxchg dst src _ => [dst, src, .r0]

end Sys2Proof

namespace Sys2Proof.Machine

/-- `k` steps from here record no fault: every state met has an empty fault record (R260). -/
def State.SafeFor (s : State) : Nat → Prop
  | 0 => s.fault = none
  | k + 1 => s.fault = none ∧ ∀ t, step s = .next t → State.SafeFor t k

/-! ### Memory accesses -/

/-- The `n` bytes at `ea` lie wholly inside the range and do not run past the last address (R231). -/
def insideRange (r : Region) (ea : Word) (n : Nat) : Prop :=
  r.base ≤ ea.toNat ∧ ea.toNat + n ≤ r.base + r.size ∧ ea.toNat + n ≤ 2 ^ 64

/-- Why an access is not admitted (R231, R44); the order of the reasons is log entry 14. -/
def State.Denied (s : State) (acc : Access) (ea : Word) (n : Nat) : MemReason → Prop
  | .region => ¬ ∃ r ∈ s.params.regions, insideRange r ea n
  | .permission =>
    (∃ r ∈ s.params.regions, insideRange r ea n) ∧
      ¬ ∃ r ∈ s.params.regions, insideRange r ea n ∧ Region.permits r acc = true
  | .misaligned =>
    (∃ r ∈ s.params.regions, insideRange r ea n ∧ Region.permits r acc = true) ∧
      s.params.allowMisaligned = false ∧ ea.toNat % n ≠ 0

/-- The `k`-th byte that an access of this instruction at `a` sees: memory's, or the oracle's where the host shares the
byte (R48). -/
def State.seenByte (s : State) (a k : Nat) : Byte :=
  if s.shared (a + k) then Config.sharedByte (s.draws + k) else s.byteAt (a + k)

/-- `v` is the `n`-byte value read at `ea`, zero above, its bytes in the host's order (R8, R42). -/
def State.Reads (s : State) (ea : Word) (n : Nat) (v : Word) : Prop :=
  v.toNat < 2 ^ (8 * n) ∧ ∀ k < n, hostByte s.params.hostEndian n v k = s.seenByte ea.toNat k

/-- `u` is `s` with the low `n` bytes of `v` stored at `ea` in the host's order: every other byte of memory reads as
before and nothing else changes (R8, R42). -/
def State.Stores (s u : State) (ea : Word) (n : Nat) (v : Word) : Prop :=
  u = { s with mem := u.mem } ∧
  (∀ k < n, u.byteAt (ea.toNat + k) = hostByte s.params.hostEndian n v k) ∧
  (∀ a, a < ea.toNat ∨ ea.toNat + n ≤ a → u.byteAt a = s.byteAt a)

/-! ### Encodings, byte reversal -/

/-- The bytes start with a reserved encoding (R86): they are no instruction, for another reason than the profile
(R88). -/
def Reserved (p : Params) (slots : List Slot) : Prop := ∃ e, decode p slots = .error e ∧ e ≠ .loadStoreClass

/-- `bswap16` of the low 16 bits, zero above (R156, R157). -/
def swap16 (v : Word) : Word := (v.extractLsb' 0 8 ++ v.extractLsb' 8 8).setWidth 64

/-- `bswap32` of the low 32 bits, zero above (R156, R157). -/
def swap32 (v : Word) : Word :=
  (v.extractLsb' 0 8 ++ v.extractLsb' 8 8 ++ v.extractLsb' 16 8 ++ v.extractLsb' 24 8).setWidth 64

/-- `bswap64` (R157). -/
def swap64 (v : Word) : Word :=
  v.extractLsb' 0 8 ++ v.extractLsb' 8 8 ++ v.extractLsb' 16 8 ++ v.extractLsb' 24 8 ++
    v.extractLsb' 32 8 ++ v.extractLsb' 40 8 ++ v.extractLsb' 48 8 ++ v.extractLsb' 56 8

/-! ### The shapes of the rules

What one rule of the spec says of an instruction in its K-form and its X-form: the encoding, the result with the next
`pc` and nothing else changed, the faults. -/

/-- R100: `D = x[dst]`, `S = sext_64(imm)` or `x[src]`; `x[dst] <- f(D, S)`. -/
structure Alu64Rule (mkK : Reg → Imm → Instr) (mkX : Reg → Reg → Instr) (opK opX : BitVec 8) (offset : Off)
    (f : Word → Word → Word) : Prop where
  encodingK : ∀ dst imm, (mkK dst imm).fields = ⟨opK, dst.nibble, 0, offset, imm⟩
  encodingX : ∀ dst src, (mkX dst src).fields = ⟨opX, dst.nibble, src.nibble, offset, 0⟩
  resultK : ∀ (s : State) dst (imm : Imm) D, s.regs.get dst = .written D →
    s.GoesOn (s.setReg dst (f D (imm.signExtend 64))) (exec (mkK dst imm) s)
  resultX : ∀ (s : State) dst src D S, s.regs.get dst = .written D → s.regs.get src = .written S →
    s.GoesOn (s.setReg dst (f D S)) (exec (mkX dst src) s)
  unwrittenK : ∀ (s : State) dst imm, s.regs.get dst = .unwritten →
    exec (mkK dst imm) s = .next (s.faulted (.uninitRegister dst s.pc))
  unwrittenX : ∀ (s : State) dst src, s.regs.get dst = .unwritten →
    exec (mkX dst src) s = .next (s.faulted (.uninitRegister dst s.pc))
  unwrittenSrc : ∀ (s : State) dst src, s.Written dst → s.regs.get src = .unwritten →
    exec (mkX dst src) s = .next (s.faulted (.uninitRegister src s.pc))

/-- R101: `D = w[dst]`, `S = imm` or `w[src]`; `x[dst] <- zext_64(f(D, S))`. -/
structure Alu32Rule (mkK : Reg → Imm → Instr) (mkX : Reg → Reg → Instr) (opK opX : BitVec 8) (offset : Off)
    (f : Half → Half → Half) : Prop where
  encodingK : ∀ dst imm, (mkK dst imm).fields = ⟨opK, dst.nibble, 0, offset, imm⟩
  encodingX : ∀ dst src, (mkX dst src).fields = ⟨opX, dst.nibble, src.nibble, offset, 0⟩
  resultK : ∀ (s : State) dst (imm : Imm) D, s.regs.get dst = .written D →
    s.GoesOn (s.setReg dst ((f (D.setWidth 32) imm).setWidth 64)) (exec (mkK dst imm) s)
  resultX : ∀ (s : State) dst src D S, s.regs.get dst = .written D → s.regs.get src = .written S →
    s.GoesOn (s.setReg dst ((f (D.setWidth 32) (S.setWidth 32)).setWidth 64)) (exec (mkX dst src) s)
  unwrittenK : ∀ (s : State) dst imm, s.regs.get dst = .unwritten →
    exec (mkK dst imm) s = .next (s.faulted (.uninitRegister dst s.pc))
  unwrittenX : ∀ (s : State) dst src, s.regs.get dst = .unwritten →
    exec (mkX dst src) s = .next (s.faulted (.uninitRegister dst s.pc))
  unwrittenSrc : ∀ (s : State) dst src, s.Written dst → s.regs.get src = .unwritten →
    exec (mkX dst src) s = .next (s.faulted (.uninitRegister src s.pc))

/-- A K-form that reads no register (R129, R130, R133, R134): `x[dst] <- f(imm)`, no fault of its own. -/
structure MoveKRule (mk : Reg → Imm → Instr) (op : BitVec 8) (offset : Off) (f : Imm → Word) : Prop where
  encoding : ∀ dst imm, (mk dst imm).fields = ⟨op, dst.nibble, 0, offset, imm⟩
  result : ∀ (s : State) dst imm, s.GoesOn (s.setReg dst (f imm)) (exec (mk dst imm) s)

/-- An X-form that reads `x[src]` alone (R129 to R132, R134): `x[dst] <- f(x[src])`. -/
structure MoveXRule (mk : Reg → Reg → Instr) (op : BitVec 8) (offset : Off) (f : Word → Word) : Prop where
  encoding : ∀ dst src, (mk dst src).fields = ⟨op, dst.nibble, src.nibble, offset, 0⟩
  result : ∀ (s : State) dst src v, s.regs.get src = .written v →
    s.GoesOn (s.setReg dst (f v)) (exec (mk dst src) s)
  unwritten : ∀ (s : State) dst src, s.regs.get src = .unwritten →
    exec (mk dst src) s = .next (s.faulted (.uninitRegister src s.pc))

/-- An instruction on `x[dst]` alone, NEG and END (R121, R122, R150): `x[dst] <- f(x[dst])`; `imm` is fixed. -/
structure UnaryRule (mk : Reg → Instr) (op : BitVec 8) (imm : Imm) (f : State → Word → Word) : Prop where
  encoding : ∀ dst, (mk dst).fields = ⟨op, dst.nibble, 0, 0, imm⟩
  result : ∀ (s : State) dst v, s.regs.get dst = .written v → s.GoesOn (s.setReg dst (f s v)) (exec (mk dst) s)
  unwritten : ∀ (s : State) dst, s.regs.get dst = .unwritten →
    exec (mk dst) s = .next (s.faulted (.uninitRegister dst s.pc))

/-- R161, R163: a conditional jump of class JMP with condition `C(D, S)`. -/
structure Jump64Rule (mkK : Reg → Nibble → Off → Imm → Instr) (mkX : Reg → Reg → Off → Instr) (opK opX : BitVec 8)
    (C : Word → Word → Prop) : Prop where
  encodingK : ∀ dst anySrc off imm, (mkK dst anySrc off imm).fields = ⟨opK, dst.nibble, anySrc, off, imm⟩
  encodingX : ∀ dst src off, (mkX dst src off).fields = ⟨opX, dst.nibble, src.nibble, off, 0⟩
  jumpK : ∀ (s : State) dst anySrc off (imm : Imm) D, s.regs.get dst = .written D →
    s.JumpsIf (C D (imm.signExtend 64)) off (exec (mkK dst anySrc off imm) s)
  jumpX : ∀ (s : State) dst src off D S, s.regs.get dst = .written D → s.regs.get src = .written S →
    s.JumpsIf (C D S) off (exec (mkX dst src off) s)
  unwrittenK : ∀ (s : State) dst anySrc off imm, s.regs.get dst = .unwritten →
    exec (mkK dst anySrc off imm) s = .next (s.faulted (.uninitRegister dst s.pc))
  unwrittenX : ∀ (s : State) dst src off, s.regs.get dst = .unwritten →
    exec (mkX dst src off) s = .next (s.faulted (.uninitRegister dst s.pc))
  unwrittenSrc : ∀ (s : State) dst src off, s.Written dst → s.regs.get src = .unwritten →
    exec (mkX dst src off) s = .next (s.faulted (.uninitRegister src s.pc))

/-- R162, R163: a conditional jump of class JMP32 with condition `C(D, S)` on the low halves. -/
structure Jump32Rule (mkK : Reg → Nibble → Off → Imm → Instr) (mkX : Reg → Reg → Off → Instr) (opK opX : BitVec 8)
    (C : Half → Half → Prop) : Prop where
  encodingK : ∀ dst anySrc off imm, (mkK dst anySrc off imm).fields = ⟨opK, dst.nibble, anySrc, off, imm⟩
  encodingX : ∀ dst src off, (mkX dst src off).fields = ⟨opX, dst.nibble, src.nibble, off, 0⟩
  jumpK : ∀ (s : State) dst anySrc off (imm : Imm) D, s.regs.get dst = .written D →
    s.JumpsIf (C (D.setWidth 32) imm) off (exec (mkK dst anySrc off imm) s)
  jumpX : ∀ (s : State) dst src off D S, s.regs.get dst = .written D → s.regs.get src = .written S →
    s.JumpsIf (C (D.setWidth 32) (S.setWidth 32)) off (exec (mkX dst src off) s)
  unwrittenK : ∀ (s : State) dst anySrc off imm, s.regs.get dst = .unwritten →
    exec (mkK dst anySrc off imm) s = .next (s.faulted (.uninitRegister dst s.pc))
  unwrittenX : ∀ (s : State) dst src off, s.regs.get dst = .unwritten →
    exec (mkX dst src off) s = .next (s.faulted (.uninitRegister dst s.pc))
  unwrittenSrc : ∀ (s : State) dst src off, s.Written dst → s.regs.get src = .unwritten →
    exec (mkX dst src off) s = .next (s.faulted (.uninitRegister src s.pc))

/-- R227, R230, R231: `x[dst] <- ext(MemRead(x[src] + off, n))`. -/
structure LoadRule (mk : Reg → Reg → Off → Instr) (op : BitVec 8) (n : Nat) (ext : Word → Word) : Prop where
  encoding : ∀ dst src off, (mk dst src off).fields = ⟨op, dst.nibble, src.nibble, off, 0⟩
  result : ∀ (s : State) dst src (off : Off) base v, s.regs.get src = .written base →
    s.Admitted .read (base + off.signExtend 64) n → s.Reads (base + off.signExtend 64) n v →
    s.GoesOn ((s.afterLoad (base + off.signExtend 64).toNat n).setReg dst (ext v)) (exec (mk dst src off) s)
  unwritten : ∀ (s : State) dst src off, s.regs.get src = .unwritten →
    exec (mk dst src off) s = .next (s.faulted (.uninitRegister src s.pc))
  denied : ∀ (s : State) dst src (off : Off) base, s.regs.get src = .written base →
    ¬ s.Admitted .read (base + off.signExtend 64) n →
    ∃ reason, exec (mk dst src off) s = .next (s.faulted (.memoryFault (base + off.signExtend 64) n reason))

/-- R228, R231: `MemWrite(x[dst] + off, n, sext_64(imm))`. -/
structure StoreImmRule (mk : Reg → Off → Imm → Instr) (op : BitVec 8) (n : Nat) : Prop where
  encoding : ∀ dst off imm, (mk dst off imm).fields = ⟨op, dst.nibble, 0, off, imm⟩
  result : ∀ (s : State) dst (off : Off) (imm : Imm) base, s.regs.get dst = .written base →
    s.Admitted .write (base + off.signExtend 64) n →
    ∃ u, s.Stores u (base + off.signExtend 64) n (imm.signExtend 64) ∧ s.GoesOn u (exec (mk dst off imm) s)
  unwritten : ∀ (s : State) dst off imm, s.regs.get dst = .unwritten →
    exec (mk dst off imm) s = .next (s.faulted (.uninitRegister dst s.pc))
  denied : ∀ (s : State) dst (off : Off) imm base, s.regs.get dst = .written base →
    ¬ s.Admitted .write (base + off.signExtend 64) n →
    ∃ reason, exec (mk dst off imm) s = .next (s.faulted (.memoryFault (base + off.signExtend 64) n reason))

/-- R229, R231: `MemWrite(x[dst] + off, n, x[src])`. -/
structure StoreRegRule (mk : Reg → Reg → Off → Instr) (op : BitVec 8) (n : Nat) : Prop where
  encoding : ∀ dst src off, (mk dst src off).fields = ⟨op, dst.nibble, src.nibble, off, 0⟩
  result : ∀ (s : State) dst src (off : Off) base v, s.regs.get dst = .written base → s.regs.get src = .written v →
    s.Admitted .write (base + off.signExtend 64) n →
    ∃ u, s.Stores u (base + off.signExtend 64) n v ∧ s.GoesOn u (exec (mk dst src off) s)
  unwritten : ∀ (s : State) dst src off, s.regs.get dst = .unwritten →
    exec (mk dst src off) s = .next (s.faulted (.uninitRegister dst s.pc))
  unwrittenSrc : ∀ (s : State) dst src off, s.Written dst → s.regs.get src = .unwritten →
    exec (mk dst src off) s = .next (s.faulted (.uninitRegister src s.pc))
  denied : ∀ (s : State) dst src (off : Off) base, s.regs.get dst = .written base → s.Written src →
    ¬ s.Admitted .write (base + off.signExtend 64) n →
    ∃ reason, exec (mk dst src off) s = .next (s.faulted (.memoryFault (base + off.signExtend 64) n reason))

/-- R240, R231: an atomic operation with two register operands. `f` is what it stores, of the old value and `x[src]`;
`fetch` says that `x[src]` gets the old value. -/
structure AtomicRule (mk : Reg → Reg → Off → Instr) (op : BitVec 8) (selector : Imm) (n : Nat)
    (f : Word → Word → Word) (fetch : Bool) : Prop where
  encoding : ∀ dst src off, (mk dst src off).fields = ⟨op, dst.nibble, src.nibble, off, selector⟩
  result : ∀ (s : State) dst src (off : Off) base v old, s.regs.get dst = .written base →
    s.regs.get src = .written v → s.Admitted .update (base + off.signExtend 64) n →
    s.Reads (base + off.signExtend 64) n old →
    ∃ u, (s.afterLoad (base + off.signExtend 64).toNat n).Stores u (base + off.signExtend 64) n (f old v) ∧
      s.GoesOn (if fetch then u.setReg src old else u) (exec (mk dst src off) s)
  unwritten : ∀ (s : State) dst src off, s.regs.get dst = .unwritten →
    exec (mk dst src off) s = .next (s.faulted (.uninitRegister dst s.pc))
  unwrittenSrc : ∀ (s : State) dst src off, s.Written dst → s.regs.get src = .unwritten →
    exec (mk dst src off) s = .next (s.faulted (.uninitRegister src s.pc))
  denied : ∀ (s : State) dst src (off : Off) base, s.regs.get dst = .written base → s.Written src →
    ¬ s.Admitted .update (base + off.signExtend 64) n →
    ∃ reason, exec (mk dst src off) s = .next (s.faulted (.memoryFault (base + off.signExtend 64) n reason))

/-- R240, CMPXCHG: `x[src]` is stored if the old value is the low `n` bytes of R0; R0 gets the old value. -/
structure CompareRule (mk : Reg → Reg → Off → Instr) (op : BitVec 8) (n : Nat) : Prop where
  encoding : ∀ dst src off, (mk dst src off).fields = ⟨op, dst.nibble, src.nibble, off, 0xf1⟩
  equal : ∀ (s : State) dst src (off : Off) base v c old, s.regs.get dst = .written base →
    s.regs.get src = .written v → s.regs.get .r0 = .written c → s.Admitted .update (base + off.signExtend 64) n →
    s.Reads (base + off.signExtend 64) n old → old.toNat = c.toNat % 2 ^ (8 * n) →
    ∃ u, (s.afterLoad (base + off.signExtend 64).toNat n).Stores u (base + off.signExtend 64) n v ∧
      s.GoesOn (u.setReg .r0 old) (exec (mk dst src off) s)
  different : ∀ (s : State) dst src (off : Off) base v c old, s.regs.get dst = .written base →
    s.regs.get src = .written v → s.regs.get .r0 = .written c → s.Admitted .update (base + off.signExtend 64) n →
    s.Reads (base + off.signExtend 64) n old → old.toNat ≠ c.toNat % 2 ^ (8 * n) →
    s.GoesOn ((s.afterLoad (base + off.signExtend 64).toNat n).setReg .r0 old) (exec (mk dst src off) s)
  unwritten : ∀ (s : State) dst src off, s.regs.get dst = .unwritten →
    exec (mk dst src off) s = .next (s.faulted (.uninitRegister dst s.pc))
  unwrittenSrc : ∀ (s : State) dst src off, s.Written dst → s.regs.get src = .unwritten →
    exec (mk dst src off) s = .next (s.faulted (.uninitRegister src s.pc))
  unwrittenR0 : ∀ (s : State) dst src off, s.Written dst → s.Written src → s.regs.get .r0 = .unwritten →
    exec (mk dst src off) s = .next (s.faulted (.uninitRegister .r0 s.pc))
  denied : ∀ (s : State) dst src (off : Off) base, s.regs.get dst = .written base → s.Written src →
    s.Written .r0 → ¬ s.Admitted .update (base + off.signExtend 64) n →
    ∃ reason, exec (mk dst src off) s = .next (s.faulted (.memoryFault (base + off.signExtend 64) n reason))

/-- R232: one `LD IMM DW` subtype: two slots, `reserved` and `offset` zero, `x[dst] <- value`, `pc + 2`. -/
structure ConstantRule (mk : Reg → Imm → Imm → Instr) (subtype : Nibble) (value : Imm → Imm → Word) : Prop where
  encoding : ∀ e dst imm nextImm, encode e (mk dst imm nextImm) =
    [Slot.ofFields e ⟨0x18, dst.nibble, subtype, 0, imm⟩, Slot.ofSecond e 0 nextImm]
  result : ∀ (s : State) dst imm nextImm,
    s.GoesTo (s.setReg dst (value imm nextImm)) ((s.pc : Int) + 2) (exec (mk dst imm nextImm) s)

/-! ### Helpers -/

/-- The helper a table has for an ID (R208: "a partial map"; the first entry where a table repeats an ID). -/
def helperFound (h : Helper) (id : Imm) (table : List Helper) : Prop :=
  ∃ pre post, table = pre ++ h :: post ∧ h.id = id ∧ ∀ g ∈ pre, g.id ≠ id

/-- The relation of a helper, as far as it is known: on the argument values `args` and the memory of `s` it may do `o`
(R201, R208, D20). A helper reads admitted memory, a shared byte of it through the oracle (R48). -/
def State.HelperRelates (s : State) (h : Helper) (args : List Word) (o : HelperOutcome) : Prop :=
  ∃ c ∈ h.cases, c.args = args ∧ c.outcome = o ∧
    ∀ a v, (a, v) ∈ c.mem →
      s.admits a = true ∧ (if s.shared a then Config.helperSees s.draws a else s.byteAt a) = v

/-- What the return of a helper leaves before the next instruction (R201, R211): R0 is the result, R1 to R5 are
unwritten, the other registers are as they were, memory holds what the helper wrote to admitted addresses (the last
write to each) and is as it was elsewhere; one draw is used up (log entry 11); nothing else changes. -/
def State.HelperReturns (s u : State) (r0 : Word) (cells : List Host.Cell) : Prop :=
  u = { s with regs := u.regs, mem := u.mem, draws := s.draws + 1 } ∧
  u.regs.get .r0 = .written r0 ∧
  (∀ r ∈ [Reg.r1, .r2, .r3, .r4, .r5], u.regs.get r = .unwritten) ∧
  (∀ r ∈ [Reg.r6, .r7, .r8, .r9, .r10], u.regs.get r = s.regs.get r) ∧
  (∀ a, (∀ c ∈ cells, c.1 = a → s.admits a = false) → u.byteAt a = s.byteAt a) ∧
  (∀ pre a v post, cells = pre ++ (a, v) :: post → s.admits a = true → (∀ c ∈ post, c.1 ≠ a) → u.byteAt a = v)

/-- The CALL of a helper that does `o` (R201, R260): the return and the next instruction, the helper's own fault with what
the model records of it (log entry 27), or no step. -/
def State.HelperDoes (s : State) (id : Imm) (o : HelperOutcome) (out : Out) : Prop :=
  match o with
  | .returns r0 cells => ∃ u, s.HelperReturns u r0 cells ∧ s.GoesOn u out
  | .faults code => out = .next (s.faulted (.helperFault s.pc id code))
  | .stuck => out = .fault .helperStuck

/-- R201 over a map of helpers: the encoding, `UnknownHelper`, the argument registers, and what the helper does: an
outcome that its relation allows in this memory, the one it allows where there is one alone, and where none is known the
free value `Config.helperAnswer`, whatever it is (log entry 11). -/
structure HelperRule (mk : Imm → Instr) (form : Nibble) (kind : HelperKind) (table : Params → List Helper) :
    Prop where
  encoding : ∀ id, (mk id).fields = ⟨0x85, 0, form, 0, id⟩
  unknown : ∀ (s : State) id, (∀ h ∈ table s.params, h.id ≠ id) →
    exec (mk id) s = .next (s.faulted (.unknownHelper s.pc id))
  unwritten : ∀ (s : State) id h pre r post, helperFound h id (table s.params) → argRegs h = pre ++ r :: post →
    (∀ q ∈ pre, s.Written q) → s.regs.get r = .unwritten →
    exec (mk id) s = .next (s.faulted (.uninitRegister r s.pc))
  related : ∀ (s : State) id h args, helperFound h id (table s.params) →
    (argRegs h).map s.regs.get = args.map .written → (∃ o, s.HelperRelates h args o) →
    ∃ o, s.HelperRelates h args o ∧ s.HelperDoes id o (exec (mk id) s)
  returns : ∀ (s : State) id h args r0 cells, helperFound h id (table s.params) →
    (argRegs h).map s.regs.get = args.map .written → (∀ o, s.HelperRelates h args o ↔ o = .returns r0 cells) →
    ∃ u, s.HelperReturns u r0 cells ∧ s.GoesOn u (exec (mk id) s)
  faults : ∀ (s : State) id h args code, helperFound h id (table s.params) →
    (argRegs h).map s.regs.get = args.map .written → (∀ o, s.HelperRelates h args o ↔ o = .faults code) →
    exec (mk id) s = .next (s.faulted (.helperFault s.pc id code))
  stuck : ∀ (s : State) id h args, helperFound h id (table s.params) →
    (argRegs h).map s.regs.get = args.map .written → (∀ o, s.HelperRelates h args o ↔ o = .stuck) →
    exec (mk id) s = .fault .helperStuck
  anyOutcome : ∀ (s : State) id h args, helperFound h id (table s.params) →
    (argRegs h).map s.regs.get = args.map .written → (∀ o, ¬ s.HelperRelates h args o) →
    s.HelperDoes id (Config.helperAnswer s.draws kind id args (s.mem.filter fun c => s.admits c.1)) (exec (mk id) s)

end Sys2Proof.Machine
end

