-- ==== Sys2Proof/Certificates/Slice0/Obligations.lean ====
section
/-! DEFINITION. The statements for the provers. Each names the rules of spec/ it comes from; the vocabulary (`GoesOn`,
`JumpsIf`, the shapes of the rules, `Inv`) is in Sys2Proof/Safety.lean. -/

open Sys2Proof Sys2Proof.Machine

/-! ### Encoding -/

/-- The bytes of R89's and R233's examples are the instructions these rules name, on both hosts. -/
def Obligations.SpecExampleBytesDecode : Prop :=
  (∀ p : Params, p.hostEndian = .little →
    decode p [⟨0x0f, 0x21, 0, 0, 0, 0, 0, 0⟩] = .ok (.add64X .r1 .r2, []) ∧
    decode p [⟨0xb7, 0x03, 0, 0, 0x44, 0x33, 0x22, 0x11⟩] = .ok (.mov64K .r3 0x11223344, [])) ∧
  (∀ p : Params, p.hostEndian = .big →
    decode p [⟨0x0f, 0x12, 0, 0, 0, 0, 0, 0⟩] = .ok (.add64X .r1 .r2, []) ∧
    decode p [⟨0xb7, 0x30, 0, 0, 0x11, 0x22, 0x33, 0x44⟩] = .ok (.mov64K .r3 0x11223344, [])) ∧
  (∀ p : Params, p.hostEndian = .little → p.ldstProfile = .supplement →
    decode p [⟨0x18, 0x01, 0, 0, 0x88, 0x77, 0x66, 0x55⟩, ⟨0, 0, 0, 0, 0x44, 0x33, 0x22, 0x11⟩] =
      .ok (.lddw .r1 0x55667788 0x11223344, []))

/-- R61, R62, R70, R74 to R78, R224 to R240: decoding the encoding of a well-formed instruction that the parameters
admit gives it back with every operand, and leaves the slots that follow, on both hosts. -/
def Obligations.EncodedInstructionDecodesBack : Prop :=
  ∀ (p : Params) (i : Instr) (rest : List Slot), i.wellFormed = true → i.admitted p = true →
    decode p (encode p.hostEndian i ++ rest) = .ok (i, rest)

/-- R83, R92: with `UNUSED_FIELDS = must_be_zero` the bytes of an instruction are its encoding, no bit more or less. -/
def Obligations.DecodedBytesAreTheEncoding : Prop :=
  ∀ (p : Params) (slots : List Slot) (i : Instr) (rest : List Slot), p.unusedFields = .mustBeZero →
    decode p slots = .ok (i, rest) → slots = encode p.hostEndian i ++ rest

/-- R24, R84: whatever decodes is well-formed (no register field that is written names R10) and admitted by the
parameters (R88, R133, R134), whether unused fields are checked or not. That `src_reg` of the fetching atomics is such a
field is the model's reading (log entry 26). -/
def Obligations.DecodedInstructionIsWellFormed : Prop :=
  ∀ (p : Params) (slots : List Slot) (i : Instr) (rest : List Slot), decode p slots = .ok (i, rest) →
    i.wellFormed = true ∧ i.admitted p = true

/-- R82: the encodings that the tables' "only" notes exclude are reserved, under every parameter. -/
def Obligations.OnlyNoteFormsAreReserved : Prop :=
  ∀ (p : Params) (x : Slot) (rest : List Slot),
    ((x.fields p.hostEndian).opcode ∈ [0x0d#8, 0x0e#8, 0x8d#8, 0x9d#8, 0x86#8, 0x8e#8, 0x96#8, 0x9e#8, 0xdf#8] →
      Reserved p (x :: rest)) ∧
    ((x.fields p.hostEndian).opcode ∈ [0x05#8, 0x06#8, 0x95#8] → (x.fields p.hostEndian).src ≠ 0 →
      Reserved p (x :: rest))

/-- R81, R204: what is absent from the tables is reserved, under every parameter. Class ALU is 4, ALU64 is 7, JMP 5,
JMP32 6; code is `opcode[7:4]`. -/
def Obligations.AbsentEncodingsAreReserved : Prop :=
  ∀ (p : Params) (x : Slot) (rest : List Slot) (f : Fields) (cls code : Nat), f = x.fields p.hostEndian →
    cls = (f.opcode.extractLsb' 0 3).toNat → code = (f.opcode.extractLsb' 4 4).toNat →
    (4 ≤ cls → code = 0xe ∨ code = 0xf → Reserved p (x :: rest)) ∧
    (cls = 4 ∨ cls = 7 →
      f.off ∉ (if code = 3 ∨ code = 9 then [0#16, 1#16] else if code = 0xb then [0#16, 8#16, 16#16, 32#16]
        else [0#16]) →
      Reserved p (x :: rest)) ∧
    (cls = 4 ∨ cls = 7 → code = 0xd → f.imm ∉ [16#32, 32#32, 64#32] → Reserved p (x :: rest)) ∧
    (f.opcode = 0x85#8 → f.src ∉ [0#4, 1#4, 2#4] → Reserved p (x :: rest))

/-- R84: a used register field with 11 to 15 is reserved, and so is `dst_reg` 10 in an arithmetic instruction;
`dst_reg` 10 is allowed in a conditional jump. -/
def Obligations.RegisterNumbersAreReserved : Prop :=
  ∀ (p : Params) (x : Slot) (rest : List Slot) (f : Fields) (cls code : Nat), f = x.fields p.hostEndian →
    cls = (f.opcode.extractLsb' 0 3).toNat → code = (f.opcode.extractLsb' 4 4).toNat →
    (cls = 4 ∨ cls = 7 → 10 ≤ f.dst.toNat → Reserved p (x :: rest)) ∧
    (cls = 4 ∨ cls = 7 → code ≠ 0xd → f.opcode.extractLsb' 3 1 = 1#1 → 11 ≤ f.src.toNat → Reserved p (x :: rest)) ∧
    (cls = 5 ∨ cls = 6 → code ∈ [1, 2, 3, 4, 5, 6, 7, 0xa, 0xb, 0xc, 0xd] →
      (11 ≤ f.dst.toNat → Reserved p (x :: rest)) ∧
      (f.opcode.extractLsb' 3 1 = 1#1 → 11 ≤ f.src.toNat → Reserved p (x :: rest)) ∧
      (f.dst = 10#4 → f.opcode.extractLsb' 3 1 = 0#1 ∨ (f.imm = 0 ∧ f.src.toNat ≤ 10) →
        ∃ i, decode p (x :: rest) = .ok (i, rest))) ∧
    (p.ldstProfile = .supplement → cls = 1 ∨ cls = 3 → 11 ≤ f.dst.toNat ∨ 11 ≤ f.src.toNat →
      Reserved p (x :: rest)) ∧
    (p.ldstProfile = .supplement → cls = 2 ∨ f.opcode = 0x18#8 → 11 ≤ f.dst.toNat → Reserved p (x :: rest))

/-- R63: an extended instruction whose `reserved` is not zero is a reserved encoding, on both hosts. -/
def Obligations.ReservedFieldMustBeZero : Prop :=
  ∀ (p : Params) (x y : Slot) (rest : List Slot), p.ldstProfile = .supplement → x.isExtended = true →
    y.reserved p.hostEndian ≠ 0 → Reserved p (x :: y :: rest)

/-- R235: the six legacy packet loads are known by their opcode bytes under `supplement`, and refused by name: neither
executed, nor illegal, nor admitted to a program that is launched. That their bytes decode to instructions that keep
every bit is the model's choice (log entry 20), and that a launch is where the program is refused is the model's reading
(log entry 7). -/
def Obligations.LegacyPacketLoadsAreRefused : Prop :=
  (∀ (p : Params) (x : Slot) (rest : List Slot), p.ldstProfile = .supplement →
    (x.fields p.hostEndian).opcode ∈ [0x20#8, 0x28#8, 0x30#8, 0x40#8, 0x48#8, 0x50#8] →
    ∃ i, decode p (x :: rest) = .ok (i, rest) ∧ i.isLegacy = true ∧ i.fields = x.fields p.hostEndian ∧
      ∀ regs cells, State.launch p (x :: rest) regs cells = .refused .legacyPacketLoad) ∧
  (∀ (i : Instr) (s : State), i.isLegacy = true → exec i s = .refused .legacyPacketLoad)

/-- R66: the two nibbles of the `regs` byte on each host. -/
def Obligations.RegsByteFollowsTheHost : Prop :=
  ∀ x : Slot,
    (x.fields .little).src = x.b1.extractLsb' 4 4 ∧ (x.fields .little).dst = x.b1.extractLsb' 0 4 ∧
    (x.fields .big).dst = x.b1.extractLsb' 4 4 ∧ (x.fields .big).src = x.b1.extractLsb' 0 4 ∧
    x.b1.toNat = (x.fields .little).src.toNat * 16 + (x.fields .little).dst.toNat ∧
    x.b1.toNat = (x.fields .big).dst.toNat * 16 + (x.fields .big).src.toNat

/-- R61, R70: reading a slot's fields loses nothing on either host, and neither does the canonical word. -/
def Obligations.SlotFieldsAndWordRoundTrip : Prop :=
  (∀ (e : Endian) (x : Slot), Slot.ofFields e (x.fields e) = x) ∧
  (∀ (e : Endian) (x : Slot), Slot.ofSecond e (x.reserved e) (x.nextImm e) = x) ∧
  (∀ f : Fields, Fields.ofWord f.word = f) ∧ (∀ w, (Fields.ofWord w).word = w) ∧
  (∀ x : Slot, (x.fields .little).word = x.b7 ++ x.b6 ++ x.b5 ++ x.b4 ++ x.b3 ++ x.b2 ++ x.b1 ++ x.b0)

/-- R60, R87: an instruction fills one slot, or two exactly where its opcode byte is 0x18; decoding leaves the slots
after it. -/
def Obligations.InstructionsFillOneOrTwoSlots : Prop :=
  ∀ (p : Params) (x : Slot) (more : List Slot) (i : Instr) (rest : List Slot), decode p (x :: more) = .ok (i, rest) →
    (i.slots = 1 ∨ i.slots = 2) ∧ (i.slots = 2 ↔ x.b0 = 0x18#8) ∧ (x :: more).drop i.slots = rest ∧
    (x :: more).length = rest.length + i.slots

/-- R28, R87, R188: slot 0 is never a second half; slot `t + 1` is one exactly where slot `t` is a first half with
opcode byte 0x18. The spec says so of programs that pass its check; for every other program this reading is the model's
(log entry 8). -/
def Obligations.SecondHalvesFollowExtendedFirstHalves : Prop :=
  ∀ prog : List Slot, isSecondHalf prog 0 = false ∧
    ∀ t x, prog[t]? = some x → t + 1 < prog.length →
      (isSecondHalf prog (t + 1) = true ↔ isSecondHalf prog t = false ∧ x.b0 = 0x18#8)

/-! ### The step -/

/-- R27, R294: in a running state whose `pc` is the first half of an instruction, a step is exactly that instruction's
execution; `exec` itself moves `pc`. -/
def Obligations.StepRunsDecodedInstruction : Prop :=
  ∀ (s : State) (i : Instr) (rest : List Slot), s.Running → s.PcInv →
    decode s.params (s.prog.drop s.pc) = .ok (i, rest) → step s = exec i s

/-- R262, R86, R88: a step that meets a reserved encoding records `IllegalInstruction` with the slot and its canonical
word and changes nothing else; one that meets a load or store class under `LDST_PROFILE = refuse` is refused instead. -/
def Obligations.UndecodableSlotFaultsOrRefuses : Prop :=
  ∀ (s : State) (x : Slot) (rest : List Slot), s.Running → s.PcInv → s.prog.drop s.pc = x :: rest →
    (Reserved s.params (x :: rest) →
      step s = .next (s.faulted (.illegalInstruction s.pc (x.fields s.params.hostEndian).word))) ∧
    (s.params.ldstProfile = .refuse → (x.b0.extractLsb' 0 3).toNat < 4 → step s = .refused .loadStoreClass) ∧
    (s.params.ldstProfile = .supplement → step s ≠ .refused .loadStoreClass)

/-- R35, R206, R296: no instruction executes after a fault or after the end of the run. -/
def Obligations.StoppedRunHasNoStep : Prop :=
  (∀ (s : State) f, s.fault = some f → step s = .fault (.runFaulted f)) ∧
  (∀ (s : State) v, s.fault = none → s.result = some v → step s = .fault .runEnded)

/-! ### Arithmetic -/

/-- R103 to R108, R121, R122: ADD, SUB, MUL, NEG at both widths and in every form. -/
def Obligations.AddSubMulNegResults : Prop :=
  Alu64Rule .add64K .add64X 0x07 0x0f 0 (fun D S => D + S) ∧
  Alu32Rule .add32K .add32X 0x04 0x0c 0 (fun D S => D + S) ∧
  Alu64Rule .sub64K .sub64X 0x17 0x1f 0 (fun D S => D - S) ∧
  Alu32Rule .sub32K .sub32X 0x14 0x1c 0 (fun D S => D - S) ∧
  Alu64Rule .mul64K .mul64X 0x27 0x2f 0 (fun D S => D * S) ∧
  Alu32Rule .mul32K .mul32X 0x24 0x2c 0 (fun D S => D * S) ∧
  UnaryRule .neg64 0x87 0 (fun _ D => 0 - D) ∧
  UnaryRule .neg32 0x84 0 (fun _ D => (0 - D.setWidth 32).setWidth 64) ∧
  (∀ (p : Params) (x : Slot) rest, x.b0 = 0x8f#8 ∨ x.b0 = 0x8c#8 → Reserved p (x :: rest))

/-- R113 to R116, R127, R128: OR, AND, XOR at both widths and in both forms. -/
def Obligations.OrAndXorResults : Prop :=
  Alu64Rule .or64K .or64X 0x47 0x4f 0 (fun D S => D ||| S) ∧
  Alu32Rule .or32K .or32X 0x44 0x4c 0 (fun D S => D ||| S) ∧
  Alu64Rule .and64K .and64X 0x57 0x5f 0 (fun D S => D &&& S) ∧
  Alu32Rule .and32K .and32X 0x54 0x5c 0 (fun D S => D &&& S) ∧
  Alu64Rule .xor64K .xor64X 0xa7 0xaf 0 (fun D S => D ^^^ S) ∧
  Alu32Rule .xor32K .xor32X 0xa4 0xac 0 (fun D S => D ^^^ S)

/-- R129 to R134: MOV and MOVSX at both widths, in both forms, from each source width; `STRICT_MOVSX` reserves the forms
of R133 and R134. -/
def Obligations.MoveResults : Prop :=
  MoveKRule .mov64K 0xb7 0 (fun imm => imm.signExtend 64) ∧
  MoveXRule .mov64X 0xbf 0 (fun v => v) ∧
  MoveKRule .mov32K 0xb4 0 (fun imm => imm.setWidth 64) ∧
  MoveXRule .mov32X 0xbc 0 (fun v => (v.setWidth 32).setWidth 64) ∧
  MoveXRule .movsx64X8 0xbf 8 (fun v => (v.setWidth 8).signExtend 64) ∧
  MoveXRule .movsx64X16 0xbf 16 (fun v => (v.setWidth 16).signExtend 64) ∧
  MoveXRule .movsx64X32 0xbf 32 (fun v => (v.setWidth 32).signExtend 64) ∧
  MoveXRule .movsx32X8 0xbc 8 (fun v => ((v.setWidth 8).signExtend 32).setWidth 64) ∧
  MoveXRule .movsx32X16 0xbc 16 (fun v => ((v.setWidth 16).signExtend 32).setWidth 64) ∧
  MoveXRule .movsx32X32 0xbc 32 (fun v => (v.setWidth 32).setWidth 64) ∧
  MoveKRule .movsx64K8 0xb7 8 (fun imm => (imm.setWidth 8).signExtend 64) ∧
  MoveKRule .movsx64K16 0xb7 16 (fun imm => (imm.setWidth 16).signExtend 64) ∧
  MoveKRule .movsx64K32 0xb7 32 (fun imm => imm.signExtend 64) ∧
  MoveKRule .movsx32K8 0xb4 8 (fun imm => ((imm.setWidth 8).signExtend 32).setWidth 64) ∧
  MoveKRule .movsx32K16 0xb4 16 (fun imm => ((imm.setWidth 16).signExtend 32).setWidth 64) ∧
  MoveKRule .movsx32K32 0xb4 32 (fun imm => imm.setWidth 64) ∧
  (∀ (p : Params) (x : Slot) rest, p.strictMovsx = true →
    ((x.fields p.hostEndian).opcode ∈ [0xb7#8, 0xb4#8] ∧ (x.fields p.hostEndian).off ∈ [8#16, 16#16, 32#16]) ∨
      ((x.fields p.hostEndian).opcode = 0xbc#8 ∧ (x.fields p.hostEndian).off = 32#16) →
    Reserved p (x :: rest))

/-- R117 to R120, R135, R136: LSH, RSH, ARSH; the amount is taken modulo 64, in class ALU modulo 32. -/
def Obligations.ShiftResults : Prop :=
  Alu64Rule .lsh64K .lsh64X 0x67 0x6f 0 (fun D S => D <<< (S.toNat % 64)) ∧
  Alu32Rule .lsh32K .lsh32X 0x64 0x6c 0 (fun D S => D <<< (S.toNat % 32)) ∧
  Alu64Rule .rsh64K .rsh64X 0x77 0x7f 0 (fun D S => D >>> (S.toNat % 64)) ∧
  Alu32Rule .rsh32K .rsh32X 0x74 0x7c 0 (fun D S => D >>> (S.toNat % 32)) ∧
  Alu64Rule .arsh64K .arsh64X 0xc7 0xcf 0 (fun D S => D.sshiftRight (S.toNat % 64)) ∧
  Alu32Rule .arsh32K .arsh32X 0xc4 0xcc 0 (fun D S => D.sshiftRight (S.toNat % 32))

/-- R109 to R112, R123 to R126: DIV, SDIV, MOD, SMOD at both widths, zero divisors included. -/
def Obligations.DivisionResults : Prop :=
  Alu64Rule .div64K .div64X 0x37 0x3f 0 (fun D S => if S = 0 then 0 else BitVec.ofNat 64 (D.toNat / S.toNat)) ∧
  Alu32Rule .div32K .div32X 0x34 0x3c 0 (fun D S => if S = 0 then 0 else BitVec.ofNat 32 (D.toNat / S.toNat)) ∧
  Alu64Rule .sdiv64K .sdiv64X 0x37 0x3f 1
    (fun D S => if S = 0 then 0 else BitVec.ofInt 64 (D.toInt.tdiv S.toInt)) ∧
  Alu32Rule .sdiv32K .sdiv32X 0x34 0x3c 1
    (fun D S => if S = 0 then 0 else BitVec.ofInt 32 (D.toInt.tdiv S.toInt)) ∧
  Alu64Rule .mod64K .mod64X 0x97 0x9f 0 (fun D S => if S = 0 then D else BitVec.ofNat 64 (D.toNat % S.toNat)) ∧
  Alu32Rule .mod32K .mod32X 0x94 0x9c 0 (fun D S => if S = 0 then D else BitVec.ofNat 32 (D.toNat % S.toNat)) ∧
  Alu64Rule .smod64K .smod64X 0x97 0x9f 1
    (fun D S => if S = 0 then D else BitVec.ofInt 64 (D.toInt - S.toInt * D.toInt.tdiv S.toInt)) ∧
  Alu32Rule .smod32K .smod32X 0x94 0x9c 1
    (fun D S => if S = 0 then D else BitVec.ofInt 32 (D.toInt - S.toInt * D.toInt.tdiv S.toInt))

/-- R152 to R154: the nine byte swaps on both hosts, at every width, with the bits above the width zero. -/
def Obligations.ByteSwapResults : Prop :=
  UnaryRule .tole16 0xd4 16
    (fun s v => if s.params.hostEndian = .little then (v.setWidth 16).setWidth 64 else swap16 v) ∧
  UnaryRule .tole32 0xd4 32
    (fun s v => if s.params.hostEndian = .little then (v.setWidth 32).setWidth 64 else swap32 v) ∧
  UnaryRule .tole64 0xd4 64
    (fun s v => if s.params.hostEndian = .little then v else swap64 v) ∧
  UnaryRule .tobe16 0xdc 16
    (fun s v => if s.params.hostEndian = .big then (v.setWidth 16).setWidth 64 else swap16 v) ∧
  UnaryRule .tobe32 0xdc 32
    (fun s v => if s.params.hostEndian = .big then (v.setWidth 32).setWidth 64 else swap32 v) ∧
  UnaryRule .tobe64 0xdc 64
    (fun s v => if s.params.hostEndian = .big then v else swap64 v) ∧
  UnaryRule .bswap16 0xd7 16 (fun _ v => swap16 v) ∧
  UnaryRule .bswap32 0xd7 32 (fun _ v => swap32 v) ∧
  UnaryRule .bswap64 0xd7 64 (fun _ v => swap64 v)

/-- R157: byte `k` of `bswapN(v)` is byte `N/8 - 1 - k` of `v`; TO_LE swaps exactly on a big-endian host and TO_BE on a
little-endian one; swapping twice gives the operand's low bytes back, and
so do TO_LE and TO_BE on either host. -/
def Obligations.SwapsReverseBytesAndAreInvolutions : Prop :=
  ∀ n ∈ [2, 4, 8], ∀ (e : Endian) (v : Word),
    (swapBytes n v).toNat < 2 ^ (8 * n) ∧
    (∀ k < n, (swapBytes n v).extractLsb' (8 * k) 8 = v.extractLsb' (8 * (n - 1 - k)) 8) ∧
    toLe .little n v = BitVec.ofNat 64 (v.toNat % 2 ^ (8 * n)) ∧ toLe .big n v = swapBytes n v ∧
    toBe .little n v = swapBytes n v ∧ toBe .big n v = BitVec.ofNat 64 (v.toNat % 2 ^ (8 * n)) ∧
    swapBytes n (swapBytes n v) = BitVec.ofNat 64 (v.toNat % 2 ^ (8 * n)) ∧
    toLe e n (toLe e n v) = BitVec.ofNat 64 (v.toNat % 2 ^ (8 * n)) ∧
    toBe e n (toBe e n v) = BitVec.ofNat 64 (v.toNat % 2 ^ (8 * n))

/-- R109 to R112, R123 to R126, R102: quotient times divisor plus remainder is the dividend, for every divisor, zero and
-1 included; a remainder is smaller than its divisor and has the sign of the dividend. -/
def Obligations.QuotientAndRemainderFitTogether : Prop :=
  (∀ D S : Word, divU D S * S + modU D S = D ∧ divS D S * S + modS D S = D) ∧
  (∀ D S : Half, divU D S * S + modU D S = D ∧ divS D S * S + modS D S = D) ∧
  (∀ D S : Word, S ≠ 0 → (modU D S).toNat < S.toNat ∧ (modS D S).toInt.natAbs < S.toInt.natAbs ∧
    (modS D S ≠ 0 → ((modS D S).toInt < 0 ↔ D.toInt < 0))) ∧
  (∀ D S : Half, S ≠ 0 → (modU D S).toNat < S.toNat ∧ (modS D S).toInt.natAbs < S.toInt.natAbs ∧
    (modS D S ≠ 0 → ((modS D S).toInt < 0 ↔ D.toInt < 0)))

/-- R102, R261: an arithmetic instruction whose register operands are written raises nothing of its own: it completes
and goes to the next slot. -/
def Obligations.ArithmeticRaisesNothing : Prop :=
  ∀ (i : Instr) (s : State), i.isArith = true → (∀ r ∈ i.reads, s.Written r) →
    ∃ u, u.fault = s.fault ∧ u.pc = s.pc ∧ s.GoesOn u (exec i s)

/-- R26, R267: an instruction that reads an unwritten register records `UninitRegister` for the first one, in the order
destination (or base), source, R0, and changes nothing else. Every instruction but the helper calls, whose argument
registers are those of the helper, and the legacy packet loads. That CMPXCHG reads R0 last, and before its access is
checked, is the model's reading (log entry 17). -/
def Obligations.FirstUnwrittenReadFaults : Prop :=
  ∀ (i : Instr) (s : State) (pre : List Reg) (r : Reg) (post : List Reg), i.reads = pre ++ r :: post →
    (∀ q ∈ pre, s.Written q) → s.regs.get r = .unwritten → exec i s = .next (s.faulted (.uninitRegister r s.pc))

/-- R29, R102: the frame of the arithmetic instructions: only the destination register, `pc` and the fault record can
change; every byte of memory reads as before. -/
def Obligations.ArithmeticFrame : Prop :=
  ∀ (i : Instr) (s t : State), i.isArith = true → exec i s = .next t →
    (∀ r, i.fieldWrite ≠ some r → t.regs.get r = s.regs.get r) ∧
    t = { s with pc := t.pc, regs := t.regs, fault := t.fault } ∧ (∀ a, t.byteAt a = s.byteAt a)

/-- R22, R101, R162: an instruction of class ALU (END apart) or JMP32 does not read upper halves: on two register files
that agree in every low half it writes the same destination, goes to the same slot and raises the same fault. -/
def Obligations.UpperHalvesAreNotRead : Prop :=
  ∀ (i : Instr) (s : State) (g : Regs) (t u : State),
    ((i.fields.opcode.extractLsb' 0 3 = 4#3 ∧ i.fields.opcode.extractLsb' 4 4 ≠ 13#4) ∨
      i.fields.opcode.extractLsb' 0 3 = 6#3) →
    (∀ r, (s.regs.get r = .unwritten ∧ g.get r = .unwritten) ∨
      ∃ v w : Word, s.regs.get r = .written v ∧ g.get r = .written w ∧ v.setWidth 32 = w.setWidth 32) →
    s.fault = none → exec i s = .next t → exec i { s with regs := g } = .next u →
    u.pc = t.pc ∧ u.fault = t.fault ∧ (t.fault = none → ∀ r, i.fieldWrite = some r → u.regs.get r = t.regs.get r)

/-! ### Jumps -/

/-- R164, R165: JA and JA32. -/
def Obligations.UnconditionalJumps : Prop :=
  (∀ off, (Instr.ja off).fields = ⟨0x05, 0, 0, off, 0⟩) ∧
  (∀ (s : State) off, s.GoesTo s ((s.pc : Int) + 1 + off.toInt) (exec (.ja off) s)) ∧
  (∀ imm, (Instr.ja32 imm).fields = ⟨0x06, 0, 0, 0, imm⟩) ∧
  (∀ (s : State) imm, s.GoesTo s ((s.pc : Int) + 1 + imm.toInt) (exec (.ja32 imm) s))

/-- R166, R168, ..., R186: the eleven conditional jumps of class JMP in both forms. -/
def Obligations.ConditionalJumps64 : Prop :=
  Jump64Rule .jeqK .jeqX 0x15 0x1d (fun D S => D = S) ∧
  Jump64Rule .jgtK .jgtX 0x25 0x2d (fun D S => D.toNat > S.toNat) ∧
  Jump64Rule .jgeK .jgeX 0x35 0x3d (fun D S => D.toNat ≥ S.toNat) ∧
  Jump64Rule .jsetK .jsetX 0x45 0x4d (fun D S => D &&& S ≠ 0) ∧
  Jump64Rule .jneK .jneX 0x55 0x5d (fun D S => D ≠ S) ∧
  Jump64Rule .jsgtK .jsgtX 0x65 0x6d (fun D S => D.toInt > S.toInt) ∧
  Jump64Rule .jsgeK .jsgeX 0x75 0x7d (fun D S => D.toInt ≥ S.toInt) ∧
  Jump64Rule .jltK .jltX 0xa5 0xad (fun D S => D.toNat < S.toNat) ∧
  Jump64Rule .jleK .jleX 0xb5 0xbd (fun D S => D.toNat ≤ S.toNat) ∧
  Jump64Rule .jsltK .jsltX 0xc5 0xcd (fun D S => D.toInt < S.toInt) ∧
  Jump64Rule .jsleK .jsleX 0xd5 0xdd (fun D S => D.toInt ≤ S.toInt)

/-- R167, R169, ..., R187: the eleven conditional jumps of class JMP32 in both forms. -/
def Obligations.ConditionalJumps32 : Prop :=
  Jump32Rule .jeq32K .jeq32X 0x16 0x1e (fun D S => D = S) ∧
  Jump32Rule .jgt32K .jgt32X 0x26 0x2e (fun D S => D.toNat > S.toNat) ∧
  Jump32Rule .jge32K .jge32X 0x36 0x3e (fun D S => D.toNat ≥ S.toNat) ∧
  Jump32Rule .jset32K .jset32X 0x46 0x4e (fun D S => D &&& S ≠ 0) ∧
  Jump32Rule .jne32K .jne32X 0x56 0x5e (fun D S => D ≠ S) ∧
  Jump32Rule .jsgt32K .jsgt32X 0x66 0x6e (fun D S => D.toInt > S.toInt) ∧
  Jump32Rule .jsge32K .jsge32X 0x76 0x7e (fun D S => D.toInt ≥ S.toInt) ∧
  Jump32Rule .jlt32K .jlt32X 0xa6 0xae (fun D S => D.toNat < S.toNat) ∧
  Jump32Rule .jle32K .jle32X 0xb6 0xbe (fun D S => D.toNat ≤ S.toNat) ∧
  Jump32Rule .jslt32K .jslt32X 0xc6 0xce (fun D S => D.toInt < S.toInt) ∧
  Jump32Rule .jsle32K .jsle32X 0xd6 0xde (fun D S => D.toInt ≤ S.toInt)

/-- R163, R191: the frame of the jumps: either only `pc` changes, or only the fault record. -/
def Obligations.JumpFrame : Prop :=
  ∀ (i : Instr) (s t : State), i.isJump = true → exec i s = .next t →
    t = { s with pc := t.pc } ∨ t = { s with fault := t.fault }

/-! ### Calls and returns -/

/-- R202: CALL local: R10 is read, the target checked, then the depth; then the frame is pushed, R0 and R6 to R9 become
unwritten, R10 is the callee's, R1 to R5 stay, and `pc` is the target. -/
def Obligations.CallLocalEffect : Prop :=
  (∀ imm, (Instr.callLocal imm).fields = ⟨0x85, 0, 1, 0, imm⟩) ∧
  (∀ (s : State) imm, s.regs.get .r10 = .unwritten →
    exec (.callLocal imm) s = .next (s.faulted (.uninitRegister .r10 s.pc))) ∧
  (∀ (s : State) imm, s.Written .r10 → ¬ s.Lands ((s.pc : Int) + 1 + imm.toInt) →
    exec (.callLocal imm) s = .next (s.faulted (.badJumpTarget s.pc ((s.pc : Int) + 1 + imm.toInt)))) ∧
  (∀ (s : State) imm, s.Written .r10 → s.Lands ((s.pc : Int) + 1 + imm.toInt) →
    s.stack.length = s.params.maxCallDepth → exec (.callLocal imm) s = .next (s.faulted (.callDepthExceeded s.pc))) ∧
  (∀ (s : State) imm fp, s.regs.get .r10 = .written fp → s.Lands ((s.pc : Int) + 1 + imm.toInt) →
    s.stack.length ≠ s.params.maxCallDepth →
    exec (.callLocal imm) s = .next
      { s with
        pc := ((s.pc : Int) + 1 + imm.toInt).toNat
        stack :=
          { ret := s.pc + 1, r6 := s.regs.get .r6, r7 := s.regs.get .r7, r8 := s.regs.get .r8, r9 := s.regs.get .r9,
            r10 := .written fp } :: s.stack
        regs :=
          { s.regs with
            r0 := .unwritten, r6 := .unwritten, r7 := .unwritten, r8 := .unwritten, r9 := .unwritten,
            r10 := .written (Params.calleeFpOf s.params fp) } })

/-- R205: EXIT: R0 is read; with an empty call stack the run ends with it, otherwise the newest frame is popped, R6 to
R10 are its, R1 to R5 become unwritten, R0 stays and `pc` is the return slot. -/
def Obligations.ExitEffect : Prop :=
  Instr.exit.fields = ⟨0x95, 0, 0, 0, 0⟩ ∧
  (∀ s : State, s.regs.get .r0 = .unwritten → exec .exit s = .next (s.faulted (.uninitRegister .r0 s.pc))) ∧
  (∀ (s : State) v, s.regs.get .r0 = .written v → s.stack = [] → exec .exit s = .next { s with result := some v }) ∧
  (∀ (s : State) f rest, s.Written .r0 → s.stack = f :: rest →
    s.GoesTo
      { s with
        stack := rest
        regs :=
          { s.regs with
            r1 := .unwritten, r2 := .unwritten, r3 := .unwritten, r4 := .unwritten, r5 := .unwritten,
            r6 := f.r6, r7 := f.r7, r8 := f.r8, r9 := f.r9, r10 := f.r10 } }
      (f.ret : Int) (exec .exit s))

/-- R206: EXIT with an empty call stack ends the run: the host receives all of R0, the state is final, no step follows;
and nothing else ends a run without a fault. -/
def Obligations.RunEndsExactlyAtOutermostExit : Prop :=
  (∀ (s : State) v, s.Running → s.fetch = .run .exit → s.stack = [] → s.regs.get .r0 = .written v →
    step s = .next { s with result := some v }) ∧
  (∀ s t : State, step s = .next t → t.result ≠ none →
    ∃ v, s.fetch = .run .exit ∧ s.stack = [] ∧ s.regs.get .r0 = .written v ∧ t = { s with result := some v } ∧
      step t = .fault .runEnded)

/-- R211, R202, R205: after the EXIT that matches a CALL local, whatever the callee did, R6 to R10 and the call stack
are the caller's again, R1 to R5 are unwritten, R0 is the callee's, and the caller goes on after the CALL. -/
def Obligations.CallAndMatchingExitRestoreTheCaller : Prop :=
  ∀ (s u w t : State) (imm : Imm), s.fault = none → exec (.callLocal imm) s = .next u → u.fault = none →
    w.stack = u.stack → w.Written .r0 → exec .exit w = .next t →
    (∀ r ∈ [Reg.r6, .r7, .r8, .r9, .r10], t.regs.get r = s.regs.get r) ∧
    (∀ r ∈ [Reg.r1, .r2, .r3, .r4, .r5], t.regs.get r = .unwritten) ∧
    t.regs.get .r0 = w.regs.get .r0 ∧ t.stack = s.stack ∧
    (w.prog = s.prog → w.fault = none → s.Lands ((s.pc : Int) + 1) → t.pc = s.pc + 1 ∧ t.fault = none)

/-- R201, R203, R208: the helper calls over `HELPERS` and `BTF_HELPERS`, whose entries relate argument values and memory to
outcomes. How the relation is given, and the free value where nothing is known of it, is the model's (log entry 11),
and so is what a helper's own fault records (log entry 27). -/
def Obligations.HelperCallEffects : Prop :=
  HelperRule .callHelper 0 .static (fun p => p.helpers) ∧ HelperRule .callBtf 2 .btf (fun p => p.btfHelpers)

/-- R201, R211, R48: whatever a helper answers, it changes no register but R0 to R5, no frame, and memory only at
admitted addresses. -/
def Obligations.HelperCallFrame : Prop :=
  ∀ (s t : State) (id : Imm), exec (.callHelper id) s = .next t ∨ exec (.callBtf id) s = .next t →
    (∀ r ∈ [Reg.r6, .r7, .r8, .r9, .r10], t.regs.get r = s.regs.get r) ∧
    t = { s with pc := t.pc, regs := t.regs, mem := t.mem, fault := t.fault, draws := t.draws } ∧
    (∀ a, s.admits a = false → t.byteAt a = s.byteAt a)

/-! ### Memory -/

/-- R227: the zero-extending loads: any bytes in memory, either host, shared bytes included. -/
def Obligations.LoadsZeroExtend : Prop :=
  LoadRule .ldxw 0x61 4 (fun v => v) ∧ LoadRule .ldxh 0x69 2 (fun v => v) ∧
  LoadRule .ldxb 0x71 1 (fun v => v) ∧ LoadRule .ldxdw 0x79 8 (fun v => v)

/-- R230: the sign-extending loads; there is no DW form. -/
def Obligations.LoadsSignExtend : Prop :=
  LoadRule .ldxsw 0x81 4 (fun v => (v.setWidth 32).signExtend 64) ∧
  LoadRule .ldxsh 0x89 2 (fun v => (v.setWidth 16).signExtend 64) ∧
  LoadRule .ldxsb 0x91 1 (fun v => (v.setWidth 8).signExtend 64) ∧
  (∀ (p : Params) (x : Slot) rest, p.ldstProfile = .supplement → x.b0 = 0x99#8 → Reserved p (x :: rest))

/-- R233, R232: `LD IMM DW` with `src_reg` 0 loads `next_imm ++ imm` and goes on two slots later. -/
def Obligations.LoadConstant64 : Prop :=
  ConstantRule .lddw 0 (fun imm nextImm => nextImm ++ imm) ∧
  ∀ (imm nextImm : Imm), (nextImm ++ imm).toNat = nextImm.toNat * 2 ^ 32 + imm.toNat

/-- R234: the platform address loads, whatever the platform's functions are; `src_reg` 7 and above is reserved. That
`next_imm` is sign-extended in subtypes 2 and 6 is the model's reading (log entry 13). -/
def Obligations.PlatformAddressLoads : Prop :=
  ConstantRule .lddwSubtype1 1 (fun imm _ => Config.mapByFd imm) ∧
  ConstantRule .lddwSubtype2 2 (fun imm nextImm => Config.mapVal (Config.mapByFd imm) + nextImm.signExtend 64) ∧
  ConstantRule .lddwSubtype3 3 (fun imm _ => Config.varAddr imm) ∧
  ConstantRule .lddwSubtype4 4 (fun imm _ => Config.codeAddr imm) ∧
  ConstantRule .lddwSubtype5 5 (fun imm _ => Config.mapByIdx imm) ∧
  ConstantRule .lddwSubtype6 6 (fun imm nextImm => Config.mapVal (Config.mapByIdx imm) + nextImm.signExtend 64) ∧
  (∀ (p : Params) (x : Slot) rest, p.ldstProfile = .supplement → x.b0 = 0x18#8 →
    7 ≤ (x.fields p.hostEndian).src.toNat → Reserved p (x :: rest))

/-- R228, R229: the stores of an immediate and of a register: the bytes, the frame of memory, the faults. -/
def Obligations.StoresWriteTheirBytes : Prop :=
  StoreImmRule .stw 0x62 4 ∧ StoreImmRule .sth 0x6a 2 ∧ StoreImmRule .stb 0x72 1 ∧ StoreImmRule .stdw 0x7a 8 ∧
  StoreRegRule .stxw 0x63 4 ∧ StoreRegRule .stxh 0x6b 2 ∧ StoreRegRule .stxb 0x73 1 ∧ StoreRegRule .stxdw 0x7b 8

/-- R42: after an 8-byte store, a 1-byte load at the `k`-th address gets `v[8k+7:8k]` on a little-endian host and
`v[63-8k:56-8k]` on a big-endian one, and an 8-byte load gets `v`; other instructions may run in between, as long as
they leave memory as it is. -/
def Obligations.LoadAfterStore : Prop :=
  ∀ (s u w : State) (dst src d b : Reg) (off loadOff : Off) (base v loadBase : Word) (k : Nat),
    s.regs.get dst = .written base → s.regs.get src = .written v → s.fault = none →
    exec (.stxdw dst src off) s = .next u → u.fault = none →
    w.mem = u.mem → w.params = s.params → w.regs.get b = .written loadBase → w.fault = none →
    (∀ j < 8, s.shared ((base + off.signExtend 64).toNat + j) = false) → w.Lands ((w.pc : Int) + 1) →
    (k < 8 → (loadBase + loadOff.signExtend 64).toNat = (base + off.signExtend 64).toNat + k →
      w.Admitted .read (loadBase + loadOff.signExtend 64) 1 →
      exec (.ldxb d b loadOff) w = .next
        { w.setReg d
            ((match s.params.hostEndian with
              | .little => v.extractLsb' (8 * k) 8
              | .big => v.extractLsb' (56 - 8 * k) 8).setWidth 64) with
          pc := w.pc + 1 }) ∧
    (loadBase + loadOff.signExtend 64 = base + off.signExtend 64 →
      w.Admitted .read (loadBase + loadOff.signExtend 64) 8 →
      exec (.ldxdw d b loadOff) w = .next { w.setReg d v with pc := w.pc + 1 })

/-- R240: the atomic operations with and without FETCH, and XCHG, at both widths; any other selector is reserved. That
they need both permissions is the model's reading (log entry 17). -/
def Obligations.AtomicOperations : Prop :=
  AtomicRule .atomic32Add 0xc3 0x00 4 (fun old v => old + v) false ∧
  AtomicRule .atomic32Or 0xc3 0x40 4 (fun old v => old ||| v) false ∧
  AtomicRule .atomic32And 0xc3 0x50 4 (fun old v => old &&& v) false ∧
  AtomicRule .atomic32Xor 0xc3 0xa0 4 (fun old v => old ^^^ v) false ∧
  AtomicRule .atomic32FetchAdd 0xc3 0x01 4 (fun old v => old + v) true ∧
  AtomicRule .atomic32FetchOr 0xc3 0x41 4 (fun old v => old ||| v) true ∧
  AtomicRule .atomic32FetchAnd 0xc3 0x51 4 (fun old v => old &&& v) true ∧
  AtomicRule .atomic32FetchXor 0xc3 0xa1 4 (fun old v => old ^^^ v) true ∧
  AtomicRule .atomic32Xchg 0xc3 0xe1 4 (fun _ v => v) true ∧
  AtomicRule .atomic64Add 0xdb 0x00 8 (fun old v => old + v) false ∧
  AtomicRule .atomic64Or 0xdb 0x40 8 (fun old v => old ||| v) false ∧
  AtomicRule .atomic64And 0xdb 0x50 8 (fun old v => old &&& v) false ∧
  AtomicRule .atomic64Xor 0xdb 0xa0 8 (fun old v => old ^^^ v) false ∧
  AtomicRule .atomic64FetchAdd 0xdb 0x01 8 (fun old v => old + v) true ∧
  AtomicRule .atomic64FetchOr 0xdb 0x41 8 (fun old v => old ||| v) true ∧
  AtomicRule .atomic64FetchAnd 0xdb 0x51 8 (fun old v => old &&& v) true ∧
  AtomicRule .atomic64FetchXor 0xdb 0xa1 8 (fun old v => old ^^^ v) true ∧
  AtomicRule .atomic64Xchg 0xdb 0xe1 8 (fun _ v => v) true ∧
  (∀ (p : Params) (x : Slot) rest, p.ldstProfile = .supplement → x.b0 = 0xc3#8 ∨ x.b0 = 0xdb#8 →
    (x.fields p.hostEndian).imm ∉
      [0x00#32, 0x40#32, 0x50#32, 0xa0#32, 0x01#32, 0x41#32, 0x51#32, 0xa1#32, 0xe1#32, 0xf1#32] →
    Reserved p (x :: rest))

/-- R240: compare-and-exchange at both widths. That the registers are read before the access is checked, and that both
permissions are needed, is the model's reading (log entry 17). -/
def Obligations.CompareAndExchange : Prop :=
  CompareRule .atomic32Cmpxchg 0xc3 4 ∧ CompareRule .atomic64Cmpxchg 0xdb 8

/-- R231, R44, R260: every access is either admitted or denied for exactly one reason; the model's admission test decides
which; and `withAccess`, through which every load, store and atomic operation goes, records it. The order region,
permission, alignment is the model's (log entry 14). -/
def Obligations.EveryAccessIsAdmittedOrDenied : Prop :=
  ∀ (s : State) (acc : Access) (ea : Word) (n : Nat),
    (s.denied acc ea n = none ↔ s.Admitted acc ea n) ∧
    (∀ reason, s.denied acc ea n = some reason ↔ s.Denied acc ea n reason) ∧
    (s.Admitted acc ea n → ∀ reason, ¬ s.Denied acc ea n reason) ∧
    (∀ k reason, s.Denied acc ea n reason →
      s.withAccess acc ea n k = .next (s.faulted (.memoryFault ea n reason)))

/-! ### The whole machine -/

/-- R32, R206, R260 and the canonical form of memory: every step keeps `Inv`. -/
def Obligations.EveryStepKeepsInv : Prop :=
  ∀ s t : State, s.Inv → step s = .next t → t.Inv

/-- `Inv` holds of the reset state and of every launched program's entry state. -/
def Obligations.InvHoldsAtStart : Prop :=
  State.reset.Inv ∧ ∀ p prog regs cells s, State.launch p prog regs cells = .next s → s.Inv

/-- R28, R163, R188, R190: once `pc` is the first half of an instruction of the program, every step keeps it so. -/
def Obligations.PcStaysOnAFirstHalf : Prop :=
  ∀ s t : State, s.PcInv → step s = .next t → t.PcInv

/-- R86, R262: a program that passed the load-time check never meets an illegal instruction and is never refused at run
time, and the check holds after every step. -/
def Obligations.CheckedProgramsNeverMeetIllegalInstructions : Prop :=
  ∀ s : State, s.Checked → s.PcInv →
    (∀ r, step s ≠ .refused r) ∧
    (∀ t, step s = .next t → t.Checked ∧ t.PcInv ∧ ∀ pc w, t.fault ≠ some (.illegalInstruction pc w))

/-- R86, R235: the load-time check passes exactly where every instruction of the program decodes and none is a legacy
packet load. -/
def Obligations.LoadTimeCheckReadsEveryInstruction : Prop :=
  ∀ (p : Params) (prog : List Slot), programProblem p prog = none ↔
    ∀ t < prog.length, isSecondHalf prog t = false →
      ∃ i rest, decode p (prog.drop t) = .ok (i, rest) ∧ i.isLegacy = false

/-- R36, R290, R292: the entry state of a launched program: slot 0, empty call stack, no fault, exactly the entry
registers written, the launch contents in memory, the first of two values for one register or the last of two for one
byte being the one that stands, which is the model's choice (log entry 5); on a program
that is not empty `pc` is the first half of an instruction. -/
def Obligations.LaunchGivesTheEntryState : Prop :=
  ∀ p prog regs cells s, State.launch p prog regs cells = .next s →
    s.params = p ∧ s.prog = prog ∧ s.pc = 0 ∧ s.stack = [] ∧ s.fault = none ∧ s.result = none ∧
    (∀ r, (∀ v, (r, v) ∉ regs) → s.regs.get r = .unwritten) ∧
    (∀ pre r v post, regs = pre ++ (r, v) :: post → (∀ w, (r, w) ∉ pre) → s.regs.get r = .written v) ∧
    (∀ pre a v post, cells = pre ++ (a, v) :: post → a < 2 ^ 64 → (∀ w, (a, w) ∉ post) → s.byteAt a = v) ∧
    (prog ≠ [] → s.PcInv)

/-- R36, R290: the reset state: `pc` 0, empty call stack, no fault, R1 and R10 written by the host, every other register
unwritten, nothing of memory set. -/
def Obligations.ResetIsAnEntryState : Prop :=
  State.reset.pc = 0 ∧ State.reset.stack = [] ∧ State.reset.fault = none ∧ State.reset.result = none ∧
  State.reset.mem = [] ∧ (∀ r, State.reset.Written r ↔ r = .r1 ∨ r = .r10) ∧
  (∃ v w, State.launch State.reset.params [] [(.r1, v), (.r10, w)] [] = .next State.reset)

/-- R5, R33, R51: no step changes the program text or a parameter of the run. -/
def Obligations.ProgramAndParametersNeverChange : Prop :=
  ∀ s t : State, step s = .next t → t.prog = s.prog ∧ t.params = s.params

/-- R24: R10 is read-only: of the instructions that decode, only CALL local and EXIT change it. That the fetching atomics
do not decode with `src_reg` 10 is the model's reading (log entry 26). -/
def Obligations.OnlyCallLocalAndExitChangeR10 : Prop :=
  ∀ (i : Instr) (s t : State), i.wellFormed = true → exec i s = .next t → t.regs.r10 ≠ s.regs.r10 →
    (∃ imm, i = .callLocal imm) ∨ i = .exit

/-- R32: only CALL local and EXIT change the call stack, by one frame. -/
def Obligations.OnlyCallLocalAndExitChangeTheCallStack : Prop :=
  ∀ (i : Instr) (s t : State), exec i s = .next t → t.stack ≠ s.stack →
    (∃ imm f, i = .callLocal imm ∧ t.stack = f :: s.stack ∧ f.ret = s.pc + 1) ∨
      (i = .exit ∧ ∃ f, s.stack = f :: t.stack)

/-- R34, R48: only stores, atomic operations and helper calls change data memory, and only at admitted addresses. -/
def Obligations.MemoryChangesOnlyWhereAdmitted : Prop :=
  ∀ (i : Instr) (s t : State), exec i s = .next t →
    (i.isStore = false → (∀ id, i ≠ .callHelper id) → (∀ id, i ≠ .callBtf id) → t.mem = s.mem) ∧
    (∀ a, s.admits a = false → t.byteAt a = s.byteAt a)

/-- R269: faults are precise: a fault other than `BadJumpTarget` leaves everything else as it was, and every fault
leaves `pc` at the instruction. -/
def Obligations.FaultsArePrecise : Prop :=
  ∀ (s t : State) (f : FaultRecord), step s = .next t → t.fault = some f →
    t.pc = s.pc ∧ ((∀ target, f ≠ .badJumpTarget s.pc target) → t = s.faulted f)

/-- R295: `ja -1` is a hang: it steps to itself, for ever, with no fault and no end. -/
def Obligations.EndlessLoopIsNoFault : Prop :=
  ∀ (s : State) (rest : List Slot), s.Running → s.PcInv →
    decode s.params (s.prog.drop s.pc) = .ok (.ja (-1), rest) →
    step s = .next s ∧ ∀ k, s.SafeFor k
end

