-- ==== Sys2Proof/Laws/Decode.lean ====
section
/-! SUPPORT. The layout laws of the decoder: fields to bytes to fields on both hosts, and register numbers. -/

namespace Sys2Proof

/-- The two nibbles of a byte, read back. -/
theorem byte_of_nibbles (hi lo : Nibble) :
    (hi ++ lo).extractLsb' 0 4 = lo ∧ (hi ++ lo).extractLsb' 4 4 = hi := by
  revert hi lo; decide

/-- Two bytes put together again. -/
theorem append_bytes16 (v : BitVec 16) : v.extractLsb' 8 8 ++ v.extractLsb' 0 8 = v := by
  apply BitVec.eq_of_getLsbD_eq
  intro i hi
  simp only [BitVec.getLsbD_append, BitVec.getLsbD_extractLsb']
  split <;> simp_all
  omega

/-- Four bytes put together again. -/
theorem append_bytes32 (v : BitVec 32) :
    v.extractLsb' 24 8 ++ v.extractLsb' 16 8 ++ v.extractLsb' 8 8 ++ v.extractLsb' 0 8 = v := by
  apply BitVec.eq_of_getLsbD_eq
  intro i hi
  simp only [BitVec.getLsbD_append, BitVec.getLsbD_extractLsb']
  split
  · simp_all
  · split
    · have : i - 8 < 8 := by omega
      simp [this]; congr 1; omega
    · split
      · have : i - 8 - 8 < 8 := by omega
        simp [this]; congr 1; omega
      · have : i - 8 - 8 - 8 < 8 := by omega
        simp [this]; congr 1; omega

/-- R70 on both hosts: the slot that holds fields reads as those fields. -/
@[simp] theorem Slot.fields_ofFields (e : Endian) (f : Fields) : (Slot.ofFields e f).fields e = f := by
  cases f
  cases e <;>
    simp only [Slot.ofFields, Slot.fields, (byte_of_nibbles _ _).1, (byte_of_nibbles _ _).2, append_bytes16,
      append_bytes32]

@[simp] theorem Slot.reserved_ofSecond (e : Endian) (r n : Half) : (Slot.ofSecond e r n).reserved e = r := by
  cases e <;> simp only [Slot.ofSecond, Slot.reserved, append_bytes32]

@[simp] theorem Slot.nextImm_ofSecond (e : Endian) (r n : Half) : (Slot.ofSecond e r n).nextImm e = n := by
  cases e <;> simp only [Slot.ofSecond, Slot.nextImm, append_bytes32]

@[simp] theorem Slot.fields_opcode (e : Endian) (s : Slot) : (s.fields e).opcode = s.b0 := by cases e <;> rfl

@[simp] theorem Slot.ofFields_b0 (e : Endian) (f : Fields) : (Slot.ofFields e f).b0 = f.opcode := by cases e <;> rfl

@[simp] theorem Reg.ofNibble_nibble (r : Reg) : Reg.ofNibble r.nibble = some r := by cases r <;> rfl

/-- A 4-bit field that names a register is that register's number. -/
theorem Reg.nibble_ofNibble {n : Nibble} {r : Reg} (h : Reg.ofNibble n = some r) : r.nibble = n := by
  revert n r; decide +revert

@[simp] theorem readReg_nibble (r : Reg) : readReg r.nibble = .ok r := by cases r <;> rfl

theorem writtenReg_nibble {r : Reg} (h : r ≠ .r10) : writtenReg r.nibble = .ok r := by
  cases r <;> first | rfl | exact absurd rfl h

end Sys2Proof
end

