-- ==== Sys2Proof/Laws/State.lean ====
section
/-! SUPPORT. The small lemmas of the state's updates: one for each field and update, true by `rfl`, and the laws of the
register file. -/

namespace Sys2Proof.Machine

/-! ### `setReg` -/

@[simp] theorem State.setReg_params (s : State) (r : Reg) (v : Word) : (s.setReg r v).params = s.params := rfl
@[simp] theorem State.setReg_prog (s : State) (r : Reg) (v : Word) : (s.setReg r v).prog = s.prog := rfl
@[simp] theorem State.setReg_pc (s : State) (r : Reg) (v : Word) : (s.setReg r v).pc = s.pc := rfl
@[simp] theorem State.setReg_regs (s : State) (r : Reg) (v : Word) :
    (s.setReg r v).regs = s.regs.set r (.written v) := rfl
@[simp] theorem State.setReg_stack (s : State) (r : Reg) (v : Word) : (s.setReg r v).stack = s.stack := rfl
@[simp] theorem State.setReg_fault (s : State) (r : Reg) (v : Word) : (s.setReg r v).fault = s.fault := rfl
@[simp] theorem State.setReg_result (s : State) (r : Reg) (v : Word) : (s.setReg r v).result = s.result := rfl
@[simp] theorem State.setReg_mem (s : State) (r : Reg) (v : Word) : (s.setReg r v).mem = s.mem := rfl
@[simp] theorem State.setReg_draws (s : State) (r : Reg) (v : Word) : (s.setReg r v).draws = s.draws := rfl

/-! ### `memWrite` -/

@[simp] theorem State.memWrite_params (s : State) (a : Word) (n : Nat) (v : Word) :
    (s.memWrite a n v).params = s.params := rfl
@[simp] theorem State.memWrite_prog (s : State) (a : Word) (n : Nat) (v : Word) :
    (s.memWrite a n v).prog = s.prog := rfl
@[simp] theorem State.memWrite_pc (s : State) (a : Word) (n : Nat) (v : Word) : (s.memWrite a n v).pc = s.pc := rfl
@[simp] theorem State.memWrite_regs (s : State) (a : Word) (n : Nat) (v : Word) :
    (s.memWrite a n v).regs = s.regs := rfl
@[simp] theorem State.memWrite_stack (s : State) (a : Word) (n : Nat) (v : Word) :
    (s.memWrite a n v).stack = s.stack := rfl
@[simp] theorem State.memWrite_fault (s : State) (a : Word) (n : Nat) (v : Word) :
    (s.memWrite a n v).fault = s.fault := rfl
@[simp] theorem State.memWrite_result (s : State) (a : Word) (n : Nat) (v : Word) :
    (s.memWrite a n v).result = s.result := rfl
@[simp] theorem State.memWrite_mem (s : State) (a : Word) (n : Nat) (v : Word) :
    (s.memWrite a n v).mem =
      Memory.storeBytes s.mem a.toNat (hostOrder s.params.hostEndian (bytesOf n v)) := rfl
@[simp] theorem State.memWrite_draws (s : State) (a : Word) (n : Nat) (v : Word) :
    (s.memWrite a n v).draws = s.draws := rfl

/-! ### `afterLoad` -/

/-- A load's draws are all it changes. -/
theorem State.afterLoad_eq (s : State) (a n : Nat) :
    s.afterLoad a n = { s with draws := (s.afterLoad a n).draws } := by
  unfold State.afterLoad; split <;> rfl

@[simp] theorem State.afterLoad_params (s : State) (a n : Nat) : (s.afterLoad a n).params = s.params := by
  rw [State.afterLoad_eq]
@[simp] theorem State.afterLoad_prog (s : State) (a n : Nat) : (s.afterLoad a n).prog = s.prog := by
  rw [State.afterLoad_eq]
@[simp] theorem State.afterLoad_pc (s : State) (a n : Nat) : (s.afterLoad a n).pc = s.pc := by
  rw [State.afterLoad_eq]
@[simp] theorem State.afterLoad_regs (s : State) (a n : Nat) : (s.afterLoad a n).regs = s.regs := by
  rw [State.afterLoad_eq]
@[simp] theorem State.afterLoad_stack (s : State) (a n : Nat) : (s.afterLoad a n).stack = s.stack := by
  rw [State.afterLoad_eq]
@[simp] theorem State.afterLoad_fault (s : State) (a n : Nat) : (s.afterLoad a n).fault = s.fault := by
  rw [State.afterLoad_eq]
@[simp] theorem State.afterLoad_result (s : State) (a n : Nat) : (s.afterLoad a n).result = s.result := by
  rw [State.afterLoad_eq]
@[simp] theorem State.afterLoad_mem (s : State) (a n : Nat) : (s.afterLoad a n).mem = s.mem := by
  rw [State.afterLoad_eq]

/-! ### `enter` and `leave` -/

@[simp] theorem State.enter_params (s : State) (fp : Word) : (s.enter fp).params = s.params := rfl
@[simp] theorem State.enter_prog (s : State) (fp : Word) : (s.enter fp).prog = s.prog := rfl
@[simp] theorem State.enter_pc (s : State) (fp : Word) : (s.enter fp).pc = s.pc := rfl
@[simp] theorem State.enter_stack (s : State) (fp : Word) : (s.enter fp).stack = s.frame fp :: s.stack := rfl
@[simp] theorem State.enter_fault (s : State) (fp : Word) : (s.enter fp).fault = s.fault := rfl
@[simp] theorem State.enter_result (s : State) (fp : Word) : (s.enter fp).result = s.result := rfl
@[simp] theorem State.enter_mem (s : State) (fp : Word) : (s.enter fp).mem = s.mem := rfl
@[simp] theorem State.enter_draws (s : State) (fp : Word) : (s.enter fp).draws = s.draws := rfl

@[simp] theorem State.leave_params (s : State) (f : Frame) (l : List Frame) : (s.leave f l).params = s.params := rfl
@[simp] theorem State.leave_prog (s : State) (f : Frame) (l : List Frame) : (s.leave f l).prog = s.prog := rfl
@[simp] theorem State.leave_pc (s : State) (f : Frame) (l : List Frame) : (s.leave f l).pc = s.pc := rfl
@[simp] theorem State.leave_stack (s : State) (f : Frame) (l : List Frame) : (s.leave f l).stack = l := rfl
@[simp] theorem State.leave_fault (s : State) (f : Frame) (l : List Frame) : (s.leave f l).fault = s.fault := rfl
@[simp] theorem State.leave_result (s : State) (f : Frame) (l : List Frame) : (s.leave f l).result = s.result := rfl
@[simp] theorem State.leave_mem (s : State) (f : Frame) (l : List Frame) : (s.leave f l).mem = s.mem := rfl
@[simp] theorem State.leave_draws (s : State) (f : Frame) (l : List Frame) : (s.leave f l).draws = s.draws := rfl

/-! ### The register file -/

@[simp] theorem Regs.get_set_same (g : Regs) (r : Reg) (v : RegVal) : (g.set r v).get r = v := by
  cases r <;> rfl

@[simp] theorem Regs.get_set_other (g : Regs) {r q : Reg} (v : RegVal) (h : q ≠ r) : (g.set r v).get q = g.get q := by
  cases r <;> cases q <;> first | rfl | exact absurd rfl h

/-- Two register files that read alike are the same. -/
theorem Regs.ext_get {g k : Regs} (h : ∀ r, g.get r = k.get r) : g = k := by
  cases g; cases k
  have h0 := h .r0; have h1 := h .r1; have h2 := h .r2; have h3 := h .r3; have h4 := h .r4; have h5 := h .r5
  have h6 := h .r6; have h7 := h .r7; have h8 := h .r8; have h9 := h .r9; have h10 := h .r10
  simp_all [Regs.get]

@[simp] theorem Regs.get_dropArgs (g : Regs) (r : Reg) :
    g.dropArgs.get r = if r ∈ [Reg.r1, .r2, .r3, .r4, .r5] then .unwritten else g.get r := by
  cases r <;> rfl

@[simp] theorem Regs.get_dropLocals (g : Regs) (r : Reg) :
    g.dropLocals.get r = if r ∈ [Reg.r0, .r6, .r7, .r8, .r9] then .unwritten else g.get r := by
  cases r <;> rfl

end Sys2Proof.Machine
end

