-- ==== Sys2Proof/Laws/Memory.lean ====
section
/-! SUPPORT. The laws of data memory: a byte reads what was stored there, a store leaves every other address alone, and
every operation keeps the canonical form, which is one list for each content. -/

namespace Sys2Proof.Machine

@[simp] theorem Memory.lookup_store_same (m : Memory) (a : Nat) (v : Byte) :
    Memory.lookup (Memory.store m a v) a = some v := by
  induction m with
  | nil => simp [Memory.store, Memory.lookup]
  | cons c rest ih =>
    obtain ⟨b, w⟩ := c
    simp only [Memory.store]
    split
    · simp [Memory.lookup]
    · split <;> simp_all [Memory.lookup]

@[simp] theorem Memory.lookup_store_other (m : Memory) {a b : Nat} (v : Byte) (h : b ≠ a) :
    Memory.lookup (Memory.store m a v) b = Memory.lookup m b := by
  induction m with
  | nil => simp [Memory.store, Memory.lookup, h]
  | cons c rest ih =>
    obtain ⟨x, w⟩ := c
    simp only [Memory.store]
    split
    · simp [Memory.lookup, h]
    · split <;> simp_all [Memory.lookup]

/-- A byte stored where addresses may rise from keeps them rising. -/
theorem Memory.store_risingFrom {m : Memory} {lo a : Nat} (v : Byte) (hm : Memory.risingFrom lo m = true)
    (h1 : lo ≤ a) (h2 : a < 2 ^ 64) : Memory.risingFrom lo (Memory.store m a v) = true := by
  induction m generalizing lo with
  | nil => simp only [Memory.store, Memory.risingFrom, Bool.and_true, Bool.and_eq_true, decide_eq_true_eq]; omega
  | cons c rest ih =>
    obtain ⟨b, w⟩ := c
    simp only [Memory.risingFrom, Bool.and_eq_true, decide_eq_true_eq] at hm
    simp only [Memory.store]
    split
    · simp only [Memory.risingFrom, Bool.and_eq_true, decide_eq_true_eq]
      exact ⟨⟨h1, h2⟩, ⟨by omega, hm.1.2⟩, hm.2⟩
    · split
      · simp only [Memory.risingFrom, Bool.and_eq_true, decide_eq_true_eq]
        subst_vars; exact ⟨⟨h1, h2⟩, hm.2⟩
      · simp only [Memory.risingFrom, Bool.and_eq_true, decide_eq_true_eq]
        exact ⟨hm.1, ih hm.2 (by omega)⟩

/-- A store keeps the canonical form. -/
theorem Memory.store_wf {m : Memory} {a : Nat} (v : Byte) (hm : Memory.wf m = true) (ha : a < 2 ^ 64) :
    Memory.wf (Memory.store m a v) = true :=
  Memory.store_risingFrom v hm (Nat.zero_le a) ha

/-- A store of consecutive bytes keeps the canonical form. -/
theorem Memory.storeBytes_wf {bytes : List Byte} {m : Memory} {a : Nat} (hm : Memory.wf m = true)
    (ha : a + bytes.length ≤ 2 ^ 64) : Memory.wf (Memory.storeBytes m a bytes) = true := by
  induction bytes generalizing m a with
  | nil => exact hm
  | cons b rest ih =>
    simp only [List.length_cons] at ha
    exact ih (Memory.store_wf b hm (by omega)) (by omega)

/-- A store of single bytes below 2^64 keeps the canonical form. -/
theorem Memory.storeCells_wf {cells : List Host.Cell} {m : Memory} (hm : Memory.wf m = true)
    (h : ∀ c ∈ cells, c.1 < 2 ^ 64) : Memory.wf (Memory.storeCells m cells) = true := by
  induction cells generalizing m with
  | nil => exact hm
  | cons c rest ih =>
    obtain ⟨a, v⟩ := c
    exact ih (Memory.store_wf v hm (h (a, v) (by simp))) fun d hd => h d (by simp [hd])

/-- Outside the stored bytes memory holds what it held. -/
theorem Memory.lookup_storeBytes_outside (bytes : List Byte) (m : Memory) (a b : Nat)
    (h : b < a ∨ a + bytes.length ≤ b) : Memory.lookup (Memory.storeBytes m a bytes) b = Memory.lookup m b := by
  induction bytes generalizing m a with
  | nil => rfl
  | cons x rest ih =>
    simp only [List.length_cons] at h
    rw [Memory.storeBytes, ih _ _ (by omega), Memory.lookup_store_other _ _ (by omega)]

/-- Each stored byte is what memory holds at its address. -/
theorem Memory.lookup_storeBytes_inside (bytes : List Byte) (m : Memory) (a k : Nat) (h : k < bytes.length) :
    Memory.lookup (Memory.storeBytes m a bytes) (a + k) = some bytes[k] := by
  induction bytes generalizing m a k with
  | nil => simp at h
  | cons x rest ih =>
    cases k with
    | zero => rw [Memory.storeBytes, Memory.lookup_storeBytes_outside _ _ _ _ (by omega)]; simp
    | succ k =>
      rw [Memory.storeBytes, show a + (k + 1) = (a + 1) + k by omega, ih _ _ _ (by simpa using h)]; simp

/-- At an address that no stored byte is for, memory holds what it held. -/
theorem Memory.lookup_storeCells_outside (cells : List Host.Cell) (m : Memory) (b : Nat)
    (h : ∀ c ∈ cells, c.1 ≠ b) : Memory.lookup (Memory.storeCells m cells) b = Memory.lookup m b := by
  induction cells generalizing m with
  | nil => rfl
  | cons c rest ih =>
    obtain ⟨a, v⟩ := c
    rw [Memory.storeCells, ih _ fun d hd => h d (by simp [hd])]
    exact Memory.lookup_store_other _ _ fun e => h (a, v) (by simp) e.symm

@[simp] theorem bytesOf_length (n : Nat) (v : Word) : (bytesOf n v).length = n := by simp [bytesOf]

@[simp] theorem hostOrder_length (e : Endian) (l : List Byte) : (hostOrder e l).length = l.length := by
  cases e <;> simp [hostOrder]

/-- What an admitted access keeps to (R231): it ends at or below 2^64. -/
theorem State.denied_none_bound {s : State} {acc : Access} {ea : Word} {n : Nat} (h : s.denied acc ea n = none) :
    ea.toNat + n ≤ 2 ^ 64 := by
  unfold State.denied at h
  split at h
  · cases h
  · rename_i hc
    simp only [Bool.not_eq_true, Bool.not_eq_false', List.any_eq_true] at hc
    obtain ⟨r, -, hr⟩ := hc
    simp only [Region.covers, Bool.and_eq_true, decide_eq_true_eq] at hr
    exact hr.2

end Sys2Proof.Machine
end

