-- ==== Sys2Proof/Laws/Ops.lean ====
section
/-! SUPPORT. What each shared operation can do, said once: if it answers a next state, one of these cases holds. -/

namespace Sys2Proof.Machine

@[simp] theorem State.raise_next (s : State) (f : FaultRecord) : s.raise f = .next { s with fault := some f } := rfl

/-- A valid slot is a slot of the program that is no second half. -/
theorem State.validSlot_iff (s : State) (t : Nat) :
    s.validSlot t = true ↔ t < s.prog.length ∧ isSecondHalf s.prog t = false := by
  simp [State.validSlot]

/-- The check of R163 is `Lands`. -/
theorem State.goto_check_iff (s : State) (t : Int) : (0 ≤ t ∧ s.validSlot t.toNat = true) ↔ s.Lands t := by
  rw [State.validSlot_iff, State.Lands]
  constructor
  · rintro ⟨h, h1, h2⟩; exact ⟨h, by omega, h2⟩
  · rintro ⟨h, h1, h2⟩; exact ⟨h, by omega, h2⟩

theorem State.goto_of_lands {s : State} {t : Int} (h : s.Lands t) : s.goto t = .next { s with pc := t.toNat } := by
  rw [State.goto, if_pos ((State.goto_check_iff s t).2 h)]

theorem State.goto_of_not_lands {s : State} {t : Int} (h : ¬ s.Lands t) :
    s.goto t = .next { s with fault := some (.badJumpTarget s.pc t) } := by
  rw [State.goto, if_neg fun c => h ((State.goto_check_iff s t).1 c), State.raise_next]

/-- `goto`: to the target where it lands, `BadJumpTarget` where it does not (R163, R190). -/
theorem State.goto_cases {s u : State} {t : Int} (h : s.goto t = .next u) :
    (s.Lands t ∧ u = { s with pc := t.toNat }) ∨
      (¬ s.Lands t ∧ u = { s with fault := some (.badJumpTarget s.pc t) }) := by
  by_cases c : s.Lands t
  · rw [State.goto_of_lands c] at h; exact .inl ⟨c, by cases h; rfl⟩
  · rw [State.goto_of_not_lands c] at h; exact .inr ⟨c, by cases h; rfl⟩

/-- `advance`: `goto` the slot `n` on (R28). -/
theorem State.advance_of_lands {s : State} {n : Nat} (h : s.Lands ((s.pc : Int) + n)) :
    s.advance n = .next { s with pc := s.pc + n } := by
  rw [State.advance, State.goto_of_lands h]
  congr 2

/-- `advance`: the slot `n` on where it exists, `BadJumpTarget` where it does not (R28, R267). -/
theorem State.advance_cases {s u : State} {n : Nat} (h : s.advance n = .next u) :
    (s.Lands ((s.pc : Int) + n) ∧ u = { s with pc := s.pc + n }) ∨
      (¬ s.Lands ((s.pc : Int) + n) ∧ u = { s with fault := some (.badJumpTarget s.pc ((s.pc : Int) + n)) }) := by
  rcases State.goto_cases h with ⟨c, rfl⟩ | ⟨c, rfl⟩
  · exact .inl ⟨c, by congr 1⟩
  · exact .inr ⟨c, rfl⟩

/-- `branch` is `goto` a target: the jump's if it is taken, the next slot if not (R163). -/
theorem State.branch_eq (s : State) (taken : Bool) (d : Int) :
    s.branch taken d = s.goto (if taken then s.target d else (s.pc : Int) + 1) := by
  cases taken <;> simp [State.branch, State.advance]

/-- Reading a register: its value goes on, or `UninitRegister` (R26). -/
theorem State.withReg_cases {s t : State} {r : Reg} {k : Word → Out} (h : s.withReg r k = .next t) :
    (∃ v, s.regs.get r = .written v ∧ k v = .next t) ∨
      (s.regs.get r = .unwritten ∧ t = { s with fault := some (.uninitRegister r s.pc) }) := by
  unfold State.withReg at h
  split at h
  · exact .inl ⟨_, by assumption, h⟩
  · exact .inr ⟨by assumption, by cases h; rfl⟩

theorem State.withReg_written {s : State} {r : Reg} {v : Word} (k : Word → Out) (h : s.regs.get r = .written v) :
    s.withReg r k = k v := by
  simp [State.withReg, h]

theorem State.withReg_unwritten {s : State} {r : Reg} (k : Word → Out) (h : s.regs.get r = .unwritten) :
    s.withReg r k = .next { s with fault := some (.uninitRegister r s.pc) } := by
  simp [State.withReg, h]

/-- Reading several registers: their values go on, or the first unwritten one is `UninitRegister` (R26, R267). -/
theorem State.withRegs_cases {l : List Reg} {s t : State} {k : List Word → Out} (h : s.withRegs l k = .next t) :
    (∃ vs, l.map s.regs.get = vs.map RegVal.written ∧ k vs = .next t) ∨
      (∃ r ∈ l, s.regs.get r = .unwritten ∧ t = { s with fault := some (.uninitRegister r s.pc) }) := by
  induction l generalizing k with
  | nil => exact .inl ⟨[], rfl, h⟩
  | cons r rest ih =>
    rcases State.withReg_cases h with ⟨v, hv, h1⟩ | ⟨hu, rfl⟩
    · rcases ih h1 with ⟨vs, hvs, h2⟩ | ⟨q, hq, h2⟩
      · exact .inl ⟨v :: vs, by simp [hv, hvs], h2⟩
      · exact .inr ⟨q, by simp [hq], h2⟩
    · exact .inr ⟨r, by simp, hu, rfl⟩

theorem State.withRegs_written {l : List Reg} {vs : List Word} {s : State} (k : List Word → Out)
    (h : l.map s.regs.get = vs.map RegVal.written) : s.withRegs l k = k vs := by
  induction l generalizing k vs with
  | nil => cases vs with
    | nil => rfl
    | cons => simp at h
  | cons r rest ih => cases vs with
    | nil => simp at h
    | cons v vs =>
      simp only [List.map_cons, List.cons.injEq] at h
      rw [State.withRegs, State.withReg_written _ h.1, ih _ h.2]

/-- The admission test: the access goes on, or `MemoryFault` with its reason (R231). -/
theorem State.withAccess_cases {s t : State} {acc : Access} {ea : Word} {n : Nat} {k : Unit → Out}
    (h : s.withAccess acc ea n k = .next t) :
    (s.denied acc ea n = none ∧ k () = .next t) ∨
      ∃ reason, s.denied acc ea n = some reason ∧ t = { s with fault := some (.memoryFault ea n reason) } := by
  unfold State.withAccess at h
  split at h
  · exact .inr ⟨_, by assumption, by cases h; rfl⟩
  · exact .inl ⟨by assumption, h⟩

/-- The admission test of the model is the one R231 states. -/
theorem State.denied_none_iff (s : State) (acc : Access) (ea : Word) (n : Nat) :
    s.denied acc ea n = none ↔ s.Admitted acc ea n := by
  unfold State.denied State.Admitted
  constructor
  · intro h
    split at h
    · cases h
    · split at h
      · cases h
      · split at h
        · cases h
        · rename_i h1 h2 h3
          simp only [Bool.not_eq_true, Bool.not_eq_false', List.any_eq_true, Region.covers, Bool.and_eq_true,
            decide_eq_true_eq] at h2
          obtain ⟨r, hr, ⟨⟨ha, hb⟩, hc⟩, hp⟩ := h2
          refine ⟨⟨r, hr, ha, hb, hc, hp⟩, ?_⟩
          cases hm : s.params.allowMisaligned <;> simp_all
  · rintro ⟨⟨r, hr, ha, hb, hc, hp⟩, hal⟩
    have h1 : (s.params.regions.any fun r => Region.covers r ea.toNat n) = true :=
      List.any_eq_true.2 ⟨r, hr, by simp only [Region.covers, ha, hb, hc, decide_true, Bool.and_self]⟩
    have h2 : (s.params.regions.any fun r => Region.covers r ea.toNat n && Region.permits r acc) = true :=
      List.any_eq_true.2 ⟨r, hr, by simp only [Region.covers, ha, hb, hc, hp, decide_true, Bool.and_self]⟩
    rw [h1, h2]
    rcases hal with h | h <;> simp [h]

theorem State.withAccess_admitted {s : State} {acc : Access} {ea : Word} {n : Nat} (k : Unit → Out)
    (h : s.Admitted acc ea n) : s.withAccess acc ea n k = k () := by
  simp [State.withAccess, (State.denied_none_iff s acc ea n).2 h]

/-- What a helper's return changes: registers R0 to R5, memory, and then it is `advance` (R201). -/
theorem helperReturn_cases {s t : State} {r0 : Word} {cells : List Host.Cell} (h : helperReturn s r0 cells = .next t) :
    ∃ u, u = { s with
          regs := { s.regs.dropArgs with r0 := .written r0 }
          mem := Memory.storeCells s.mem (admittedCells s cells)
          draws := s.draws + 1 } ∧ u.advance 1 = .next t :=
  ⟨_, rfl, h⟩

/-- A known case applies exactly where R201's relation holds of its argument values and memory. -/
theorem caseApplies_iff (s : State) (args : List Word) (c : HelperCase) :
    caseApplies s args c = true ↔ c.args = args ∧ ∀ a v, (a, v) ∈ c.mem → s.admits a = true ∧ s.helperSees a = v := by
  simp [caseApplies]

/-- The allowed outcomes are those the relation relates. -/
theorem mem_allowedOutcomes_iff {s : State} {h : Helper} {args : List Word} {o : HelperOutcome} :
    o ∈ allowedOutcomes s h args ↔ s.HelperRelates h args o := by
  simp only [allowedOutcomes, List.mem_map, List.mem_filter, caseApplies_iff, State.HelperRelates,
    State.helperSees]
  constructor
  · rintro ⟨c, ⟨hc, ha, hm⟩, ho⟩; exact ⟨c, hc, ha, ho, hm⟩
  · rintro ⟨c, hc, ha, ho, hm⟩; exact ⟨c, ⟨hc, ha, hm⟩, ho⟩

/-- What a helper does: the free value where its relation says nothing, else one of the outcomes it allows (R201). -/
theorem helperOutcome_cases (s : State) (kind : HelperKind) (h : Helper) (args : List Word) :
    (allowedOutcomes s h args = [] ∧
        helperOutcome s kind h args = Config.helperAnswer s.draws kind h.id args (admittedCells s s.mem)) ∨
      helperOutcome s kind h args ∈ allowedOutcomes s h args := by
  unfold helperOutcome
  split
  · exact .inl ⟨by assumption, rfl⟩
  · rename_i he; exact .inr (he ▸ List.mem_singleton.2 rfl)
  · rename_i o rest _ he
    rw [he]
    have hlt : Config.helperChoice s.draws % (rest.length + 1) < (o :: rest).length :=
      Nat.mod_lt _ (Nat.succ_pos _)
    rw [List.getD_eq_getElem _ _ hlt]
    exact .inr (List.getElem_mem hlt)

/-- A helper's answer: it returns, or raises a fault of its own (R201, R260). -/
theorem helperAnswer_cases {s t : State} {id : Imm} {o : HelperOutcome} (h : helperAnswer s id o = .next t) :
    (∃ r0 cells, o = .returns r0 cells ∧ helperReturn s r0 cells = .next t) ∨
      ∃ code, o = .faults code ∧ t = { s with fault := some (.helperFault s.pc id code) } := by
  cases o with
  | returns r0 cells => exact .inl ⟨r0, cells, rfl, h⟩
  | faults code => exact .inr ⟨code, rfl, by cases h; rfl⟩
  | stuck => cases h

/-- `step` answers a next state in one of two ways: the instruction at `pc` executes, or fetching it raises a fault. -/
theorem step_cases {s t : State} (h : step s = .next t) :
    s.halted = none ∧ ((∃ i, s.fetch = .run i ∧ exec i s = .next t) ∨
      ∃ f, s.fetch = .raises f ∧ t = { s with fault := some f }) := by
  unfold step at h
  split at h
  · cases h
  · refine ⟨by assumption, ?_⟩
    split at h
    · exact .inl ⟨_, by assumption, h⟩
    · exact .inr ⟨_, by assumption, by cases h; rfl⟩
    · cases h

end Sys2Proof.Machine
end

