-- ==== Sys2Proof/Laws/Exec.lean ====
section
/-! SUPPORT. What executing an instruction can do, said once: it raises a fault and changes nothing else, or it ends the
run, or it has one of a few effects and goes to a slot. Proved shape by shape; the proofs about all instructions cite
`exec_cases` and never unfold a meaning. -/

namespace Sys2Proof.Machine

/-- What an instruction has done when it goes to its next slot. -/
inductive Did (i : Instr) (s : State) : State → Prop where
  | jumped : i.isJump = true → Did i s s
  | wrote (r : Reg) (v : Word) : i.fieldWrite = some r → i.isStore = false → Did i s (s.setReg r v)
  | loaded (a n : Nat) (r : Reg) (v : Word) : i.fieldWrite = some r → i.isStore = false → i.isArith = false →
      Did i s ((s.afterLoad a n).setReg r v)
  | stored (ea : Word) (n : Nat) (v : Word) : i.isStore = true → i.fieldWrite = none → s.denied .write ea n = none →
      Did i s (s.memWrite ea n v)
  | updated (ea : Word) (n : Nat) (v : Word) : i.isStore = true → i.fieldWrite = none →
      s.denied .update ea n = none → Did i s ((s.afterLoad ea.toNat n).memWrite ea n v)
  | fetched (ea : Word) (n : Nat) (v : Word) (r : Reg) (old : Word) : i.isStore = true → i.fieldWrite = some r →
      s.denied .update ea n = none → Did i s (((s.afterLoad ea.toNat n).memWrite ea n v).setReg r old)
  | exchanged (ea : Word) (n : Nat) (v old : Word) : i.isStore = true → i.fieldWrite = none →
      s.denied .update ea n = none → Did i s (((s.afterLoad ea.toNat n).memWrite ea n v).setReg .r0 old)
  | compared (ea : Word) (n : Nat) (old : Word) : i.isStore = true → i.fieldWrite = none →
      s.denied .update ea n = none → Did i s ((s.afterLoad ea.toNat n).setReg .r0 old)
  | called (imm : Imm) (fp : Word) : i = .callLocal imm → s.regs.get .r10 = .written fp →
      s.Lands (s.target (immDisp imm)) → s.stack.length ≠ s.params.maxCallDepth → Did i s (s.enter fp)
  | returned (f : Frame) (rest : List Frame) : i = .exit → s.stack = f :: rest → Did i s (s.leave f rest)
  | helped (r0 : Word) (cells : List Host.Cell) : (∃ id, i = .callHelper id ∨ i = .callBtf id) →
      Did i s
        { s with
          regs := { s.regs.dropArgs with r0 := .written r0 }
          mem := Memory.storeCells s.mem (admittedCells s cells)
          draws := s.draws + 1 }

theorem Did.pc {i : Instr} {s u : State} (h : Did i s u) : u.pc = s.pc := by cases h <;> simp
theorem Did.prog {i : Instr} {s u : State} (h : Did i s u) : u.prog = s.prog := by cases h <;> simp
theorem Did.params {i : Instr} {s u : State} (h : Did i s u) : u.params = s.params := by cases h <;> simp
theorem Did.fault {i : Instr} {s u : State} (h : Did i s u) : u.fault = s.fault := by cases h <;> simp
theorem Did.result {i : Instr} {s u : State} (h : Did i s u) : u.result = s.result := by cases h <;> simp

/-- The three ways in which an instruction answers a next state. -/
def Ends (i : Instr) (s t : State) : Prop :=
  (∃ f, t = s.faulted f) ∨
  (i = .exit ∧ s.stack = [] ∧ ∃ v, s.regs.get .r0 = .written v ∧ t = { s with result := some v }) ∨
  ∃ u target, Did i s u ∧ u.goto target = .next t

/-! ### Shape by shape -/

theorem Ends.of_fault {i : Instr} {s : State} {f : FaultRecord} : Ends i s { s with fault := some f } :=
  .inl ⟨f, rfl⟩

/-- An arithmetic instruction or a constant load that has written its register. -/
theorem Ends.of_wrote {i : Instr} {s t : State} {r : Reg} {v : Word} {n : Nat} (hw : i.fieldWrite = some r)
    (hs : i.isStore = false) (h : (s.setReg r v).advance n = .next t) : Ends i s t :=
  .inr (.inr ⟨_, _, .wrote r v hw hs, h⟩)

theorem alu64K_ends {i : Instr} {s t : State} {op dst imm} (hw : i.fieldWrite = some dst) (hs : i.isStore = false)
    (h : alu64K op dst imm s = .next t) : Ends i s t := by
  rcases State.withReg_cases h with ⟨_, _, h⟩ | ⟨_, rfl⟩
  · exact .of_wrote hw hs h
  · exact .of_fault

theorem alu64X_ends {i : Instr} {s t : State} {op dst src} (hw : i.fieldWrite = some dst) (hs : i.isStore = false)
    (h : alu64X op dst src s = .next t) : Ends i s t := by
  rcases State.withReg_cases h with ⟨_, _, h⟩ | ⟨_, rfl⟩
  · rcases State.withReg_cases h with ⟨_, _, h⟩ | ⟨_, rfl⟩
    · exact .of_wrote hw hs h
    · exact .of_fault
  · exact .of_fault

theorem alu32K_ends {i : Instr} {s t : State} {op dst imm} (hw : i.fieldWrite = some dst) (hs : i.isStore = false)
    (h : alu32K op dst imm s = .next t) : Ends i s t := by
  rcases State.withReg_cases h with ⟨_, _, h⟩ | ⟨_, rfl⟩
  · exact .of_wrote hw hs h
  · exact .of_fault

theorem alu32X_ends {i : Instr} {s t : State} {op dst src} (hw : i.fieldWrite = some dst) (hs : i.isStore = false)
    (h : alu32X op dst src s = .next t) : Ends i s t := by
  rcases State.withReg_cases h with ⟨_, _, h⟩ | ⟨_, rfl⟩
  · rcases State.withReg_cases h with ⟨_, _, h⟩ | ⟨_, rfl⟩
    · exact .of_wrote hw hs h
    · exact .of_fault
  · exact .of_fault

/-- One register read, one written: NEG, END, the X-forms of MOV and MOVSX. -/
theorem one_ends {i : Instr} {s t : State} {f : Word → Word} {r dst} (hw : i.fieldWrite = some dst)
    (hs : i.isStore = false) (h : (s.withReg r fun v => (s.setReg dst (f v)).advance 1) = .next t) : Ends i s t := by
  rcases State.withReg_cases h with ⟨_, _, h⟩ | ⟨_, rfl⟩
  · exact .of_wrote hw hs h
  · exact .of_fault

theorem jump64K_ends {i : Instr} {s t : State} {c dst off imm} (hj : i.isJump = true)
    (h : jump64K c dst off imm s = .next t) : Ends i s t := by
  rcases State.withReg_cases h with ⟨_, _, h⟩ | ⟨_, rfl⟩
  · exact .inr (.inr ⟨_, _, .jumped hj, (State.branch_eq ..) ▸ h⟩)
  · exact .of_fault

theorem jump64X_ends {i : Instr} {s t : State} {c dst src off} (hj : i.isJump = true)
    (h : jump64X c dst src off s = .next t) : Ends i s t := by
  rcases State.withReg_cases h with ⟨_, _, h⟩ | ⟨_, rfl⟩
  · rcases State.withReg_cases h with ⟨_, _, h⟩ | ⟨_, rfl⟩
    · exact .inr (.inr ⟨_, _, .jumped hj, (State.branch_eq ..) ▸ h⟩)
    · exact .of_fault
  · exact .of_fault

theorem jump32K_ends {i : Instr} {s t : State} {c dst off imm} (hj : i.isJump = true)
    (h : jump32K c dst off imm s = .next t) : Ends i s t := by
  rcases State.withReg_cases h with ⟨_, _, h⟩ | ⟨_, rfl⟩
  · exact .inr (.inr ⟨_, _, .jumped hj, (State.branch_eq ..) ▸ h⟩)
  · exact .of_fault

theorem jump32X_ends {i : Instr} {s t : State} {c dst src off} (hj : i.isJump = true)
    (h : jump32X c dst src off s = .next t) : Ends i s t := by
  rcases State.withReg_cases h with ⟨_, _, h⟩ | ⟨_, rfl⟩
  · rcases State.withReg_cases h with ⟨_, _, h⟩ | ⟨_, rfl⟩
    · exact .inr (.inr ⟨_, _, .jumped hj, (State.branch_eq ..) ▸ h⟩)
    · exact .of_fault
  · exact .of_fault

theorem load_ends {i : Instr} {s t : State} {n ext dst src off} (hw : i.fieldWrite = some dst)
    (hs : i.isStore = false) (ha : i.isArith = false) (h : load n ext dst src off s = .next t) : Ends i s t := by
  rcases State.withReg_cases h with ⟨_, _, h⟩ | ⟨_, rfl⟩
  · rcases State.withAccess_cases h with ⟨_, h⟩ | ⟨_, _, rfl⟩
    · exact .inr (.inr ⟨_, _, .loaded _ _ _ _ hw hs ha, h⟩)
    · exact .of_fault
  · exact .of_fault

theorem storeImm_ends {i : Instr} {s t : State} {n dst off imm} (hs : i.isStore = true) (hw : i.fieldWrite = none)
    (h : storeImm n dst off imm s = .next t) : Ends i s t := by
  rcases State.withReg_cases h with ⟨_, _, h⟩ | ⟨_, rfl⟩
  · rcases State.withAccess_cases h with ⟨hd, h⟩ | ⟨_, _, rfl⟩
    · exact .inr (.inr ⟨_, _, .stored _ _ _ hs hw hd, h⟩)
    · exact .of_fault
  · exact .of_fault

theorem storeReg_ends {i : Instr} {s t : State} {n dst src off} (hs : i.isStore = true) (hw : i.fieldWrite = none)
    (h : storeReg n dst src off s = .next t) : Ends i s t := by
  rcases State.withReg_cases h with ⟨_, _, h⟩ | ⟨_, rfl⟩
  · rcases State.withReg_cases h with ⟨_, _, h⟩ | ⟨_, rfl⟩
    · rcases State.withAccess_cases h with ⟨hd, h⟩ | ⟨_, _, rfl⟩
      · exact .inr (.inr ⟨_, _, .stored _ _ _ hs hw hd, h⟩)
      · exact .of_fault
    · exact .of_fault
  · exact .of_fault

theorem atomicOp_ends {i : Instr} {s t : State} {n op dst src off} (hs : i.isStore = true) (hw : i.fieldWrite = none)
    (h : atomicOp n op dst src off s = .next t) : Ends i s t := by
  rcases State.withReg_cases h with ⟨_, _, h⟩ | ⟨_, rfl⟩
  · rcases State.withReg_cases h with ⟨_, _, h⟩ | ⟨_, rfl⟩
    · rcases State.withAccess_cases h with ⟨hd, h⟩ | ⟨_, _, rfl⟩
      · exact .inr (.inr ⟨_, _, .updated _ _ _ hs hw hd, h⟩)
      · exact .of_fault
    · exact .of_fault
  · exact .of_fault

theorem atomicFetch_ends {i : Instr} {s t : State} {n op dst src off} (hs : i.isStore = true)
    (hw : i.fieldWrite = some src) (h : atomicFetch n op dst src off s = .next t) : Ends i s t := by
  rcases State.withReg_cases h with ⟨_, _, h⟩ | ⟨_, rfl⟩
  · rcases State.withReg_cases h with ⟨_, _, h⟩ | ⟨_, rfl⟩
    · rcases State.withAccess_cases h with ⟨hd, h⟩ | ⟨_, _, rfl⟩
      · exact .inr (.inr ⟨_, _, .fetched _ _ _ _ _ hs hw hd, h⟩)
      · exact .of_fault
    · exact .of_fault
  · exact .of_fault

theorem atomicCmpxchg_ends {i : Instr} {s t : State} {n dst src off} (hs : i.isStore = true)
    (hw : i.fieldWrite = none) (h : atomicCmpxchg n dst src off s = .next t) : Ends i s t := by
  rcases State.withReg_cases h with ⟨base, _, h⟩ | ⟨_, rfl⟩
  · rcases State.withReg_cases h with ⟨v, _, h⟩ | ⟨_, rfl⟩
    · rcases State.withReg_cases h with ⟨c, _, h⟩ | ⟨_, rfl⟩
      · rcases State.withAccess_cases h with ⟨hd, h⟩ | ⟨_, _, rfl⟩
        · by_cases he : s.memRead (effAddr base off) n = lowBytes n c
          · simp only [if_pos he] at h
            exact .inr (.inr ⟨_, _, .exchanged _ _ _ _ hs hw hd, h⟩)
          · simp only [if_neg he] at h
            exact .inr (.inr ⟨_, _, .compared _ _ _ hs hw hd, h⟩)
        · exact .of_fault
      · exact .of_fault
    · exact .of_fault
  · exact .of_fault

theorem callHelper_ends {i : Instr} {s t : State} {kind id} (hi : ∃ id, i = .callHelper id ∨ i = .callBtf id)
    (h : callHelper kind id s = .next t) : Ends i s t := by
  unfold callHelper at h
  split at h
  · rw [State.raise_next] at h; cases h; exact .of_fault
  · rcases State.withRegs_cases h with ⟨_, _, h⟩ | ⟨_, _, _, rfl⟩
    · rcases helperAnswer_cases h with ⟨r0, cells, _, h⟩ | ⟨_, _, rfl⟩
      · exact .inr (.inr ⟨_, _, .helped r0 cells hi, h⟩)
      · exact .of_fault
    · exact .of_fault

theorem callLocal_ends {s t : State} {imm : Imm} (h : execCallLocal imm s = .next t) : Ends (.callLocal imm) s t := by
  rcases State.withReg_cases h with ⟨fp, hfp, h⟩ | ⟨_, rfl⟩
  · simp only [State.goto_check_iff] at h
    split at h
    · split at h
      · rw [State.raise_next] at h; cases h; exact .of_fault
      · exact .inr (.inr ⟨_, _, .called imm fp rfl hfp (by assumption) (by assumption), h⟩)
    · rw [State.raise_next] at h; cases h; exact .of_fault
  · exact .of_fault

theorem exit_ends {s t : State} (h : execExit s = .next t) : Ends .exit s t := by
  rcases State.withReg_cases h with ⟨v, hv, h⟩ | ⟨_, rfl⟩
  · split at h
    · exact .inr (.inl ⟨rfl, by assumption, v, hv, by cases h; rfl⟩)
    · exact .inr (.inr ⟨_, _, .returned _ _ rfl (by assumption), h⟩)
  · exact .of_fault

/-! ### Every instruction -/

variable {s t : State} {dst src : Reg} {off : Off} {imm nextImm id : Imm} {anySrc : Nibble} {rest : BitVec 56}

theorem Ends.add64K (h : exec (.add64K dst imm) s = .next t) : Ends (.add64K dst imm) s t := alu64K_ends rfl rfl h
theorem Ends.add64X (h : exec (.add64X dst src) s = .next t) : Ends (.add64X dst src) s t := alu64X_ends rfl rfl h
theorem Ends.add32K (h : exec (.add32K dst imm) s = .next t) : Ends (.add32K dst imm) s t := alu32K_ends rfl rfl h
theorem Ends.add32X (h : exec (.add32X dst src) s = .next t) : Ends (.add32X dst src) s t := alu32X_ends rfl rfl h
theorem Ends.sub64K (h : exec (.sub64K dst imm) s = .next t) : Ends (.sub64K dst imm) s t := alu64K_ends rfl rfl h
theorem Ends.sub64X (h : exec (.sub64X dst src) s = .next t) : Ends (.sub64X dst src) s t := alu64X_ends rfl rfl h
theorem Ends.sub32K (h : exec (.sub32K dst imm) s = .next t) : Ends (.sub32K dst imm) s t := alu32K_ends rfl rfl h
theorem Ends.sub32X (h : exec (.sub32X dst src) s = .next t) : Ends (.sub32X dst src) s t := alu32X_ends rfl rfl h
theorem Ends.mul64K (h : exec (.mul64K dst imm) s = .next t) : Ends (.mul64K dst imm) s t := alu64K_ends rfl rfl h
theorem Ends.mul64X (h : exec (.mul64X dst src) s = .next t) : Ends (.mul64X dst src) s t := alu64X_ends rfl rfl h
theorem Ends.mul32K (h : exec (.mul32K dst imm) s = .next t) : Ends (.mul32K dst imm) s t := alu32K_ends rfl rfl h
theorem Ends.mul32X (h : exec (.mul32X dst src) s = .next t) : Ends (.mul32X dst src) s t := alu32X_ends rfl rfl h
theorem Ends.div64K (h : exec (.div64K dst imm) s = .next t) : Ends (.div64K dst imm) s t := alu64K_ends rfl rfl h
theorem Ends.div64X (h : exec (.div64X dst src) s = .next t) : Ends (.div64X dst src) s t := alu64X_ends rfl rfl h
theorem Ends.div32K (h : exec (.div32K dst imm) s = .next t) : Ends (.div32K dst imm) s t := alu32K_ends rfl rfl h
theorem Ends.div32X (h : exec (.div32X dst src) s = .next t) : Ends (.div32X dst src) s t := alu32X_ends rfl rfl h
theorem Ends.sdiv64K (h : exec (.sdiv64K dst imm) s = .next t) : Ends (.sdiv64K dst imm) s t := alu64K_ends rfl rfl h
theorem Ends.sdiv64X (h : exec (.sdiv64X dst src) s = .next t) : Ends (.sdiv64X dst src) s t := alu64X_ends rfl rfl h
theorem Ends.sdiv32K (h : exec (.sdiv32K dst imm) s = .next t) : Ends (.sdiv32K dst imm) s t := alu32K_ends rfl rfl h
theorem Ends.sdiv32X (h : exec (.sdiv32X dst src) s = .next t) : Ends (.sdiv32X dst src) s t := alu32X_ends rfl rfl h
theorem Ends.or64K (h : exec (.or64K dst imm) s = .next t) : Ends (.or64K dst imm) s t := alu64K_ends rfl rfl h
theorem Ends.or64X (h : exec (.or64X dst src) s = .next t) : Ends (.or64X dst src) s t := alu64X_ends rfl rfl h
theorem Ends.or32K (h : exec (.or32K dst imm) s = .next t) : Ends (.or32K dst imm) s t := alu32K_ends rfl rfl h
theorem Ends.or32X (h : exec (.or32X dst src) s = .next t) : Ends (.or32X dst src) s t := alu32X_ends rfl rfl h
theorem Ends.and64K (h : exec (.and64K dst imm) s = .next t) : Ends (.and64K dst imm) s t := alu64K_ends rfl rfl h
theorem Ends.and64X (h : exec (.and64X dst src) s = .next t) : Ends (.and64X dst src) s t := alu64X_ends rfl rfl h
theorem Ends.and32K (h : exec (.and32K dst imm) s = .next t) : Ends (.and32K dst imm) s t := alu32K_ends rfl rfl h
theorem Ends.and32X (h : exec (.and32X dst src) s = .next t) : Ends (.and32X dst src) s t := alu32X_ends rfl rfl h
theorem Ends.lsh64K (h : exec (.lsh64K dst imm) s = .next t) : Ends (.lsh64K dst imm) s t := alu64K_ends rfl rfl h
theorem Ends.lsh64X (h : exec (.lsh64X dst src) s = .next t) : Ends (.lsh64X dst src) s t := alu64X_ends rfl rfl h
theorem Ends.lsh32K (h : exec (.lsh32K dst imm) s = .next t) : Ends (.lsh32K dst imm) s t := alu32K_ends rfl rfl h
theorem Ends.lsh32X (h : exec (.lsh32X dst src) s = .next t) : Ends (.lsh32X dst src) s t := alu32X_ends rfl rfl h
theorem Ends.rsh64K (h : exec (.rsh64K dst imm) s = .next t) : Ends (.rsh64K dst imm) s t := alu64K_ends rfl rfl h
theorem Ends.rsh64X (h : exec (.rsh64X dst src) s = .next t) : Ends (.rsh64X dst src) s t := alu64X_ends rfl rfl h
theorem Ends.rsh32K (h : exec (.rsh32K dst imm) s = .next t) : Ends (.rsh32K dst imm) s t := alu32K_ends rfl rfl h
theorem Ends.rsh32X (h : exec (.rsh32X dst src) s = .next t) : Ends (.rsh32X dst src) s t := alu32X_ends rfl rfl h
theorem Ends.mod64K (h : exec (.mod64K dst imm) s = .next t) : Ends (.mod64K dst imm) s t := alu64K_ends rfl rfl h
theorem Ends.mod64X (h : exec (.mod64X dst src) s = .next t) : Ends (.mod64X dst src) s t := alu64X_ends rfl rfl h
theorem Ends.mod32K (h : exec (.mod32K dst imm) s = .next t) : Ends (.mod32K dst imm) s t := alu32K_ends rfl rfl h
theorem Ends.mod32X (h : exec (.mod32X dst src) s = .next t) : Ends (.mod32X dst src) s t := alu32X_ends rfl rfl h
theorem Ends.smod64K (h : exec (.smod64K dst imm) s = .next t) : Ends (.smod64K dst imm) s t := alu64K_ends rfl rfl h
theorem Ends.smod64X (h : exec (.smod64X dst src) s = .next t) : Ends (.smod64X dst src) s t := alu64X_ends rfl rfl h
theorem Ends.smod32K (h : exec (.smod32K dst imm) s = .next t) : Ends (.smod32K dst imm) s t := alu32K_ends rfl rfl h
theorem Ends.smod32X (h : exec (.smod32X dst src) s = .next t) : Ends (.smod32X dst src) s t := alu32X_ends rfl rfl h
theorem Ends.xor64K (h : exec (.xor64K dst imm) s = .next t) : Ends (.xor64K dst imm) s t := alu64K_ends rfl rfl h
theorem Ends.xor64X (h : exec (.xor64X dst src) s = .next t) : Ends (.xor64X dst src) s t := alu64X_ends rfl rfl h
theorem Ends.xor32K (h : exec (.xor32K dst imm) s = .next t) : Ends (.xor32K dst imm) s t := alu32K_ends rfl rfl h
theorem Ends.xor32X (h : exec (.xor32X dst src) s = .next t) : Ends (.xor32X dst src) s t := alu32X_ends rfl rfl h
theorem Ends.mov64K (h : exec (.mov64K dst imm) s = .next t) : Ends (.mov64K dst imm) s t := .of_wrote rfl rfl h
theorem Ends.mov64X (h : exec (.mov64X dst src) s = .next t) : Ends (.mov64X dst src) s t := one_ends rfl rfl h
theorem Ends.mov32K (h : exec (.mov32K dst imm) s = .next t) : Ends (.mov32K dst imm) s t := .of_wrote rfl rfl h
theorem Ends.mov32X (h : exec (.mov32X dst src) s = .next t) : Ends (.mov32X dst src) s t := one_ends rfl rfl h
theorem Ends.arsh64K (h : exec (.arsh64K dst imm) s = .next t) : Ends (.arsh64K dst imm) s t := alu64K_ends rfl rfl h
theorem Ends.arsh64X (h : exec (.arsh64X dst src) s = .next t) : Ends (.arsh64X dst src) s t := alu64X_ends rfl rfl h
theorem Ends.arsh32K (h : exec (.arsh32K dst imm) s = .next t) : Ends (.arsh32K dst imm) s t := alu32K_ends rfl rfl h
theorem Ends.arsh32X (h : exec (.arsh32X dst src) s = .next t) : Ends (.arsh32X dst src) s t := alu32X_ends rfl rfl h
theorem Ends.neg64 (h : exec (.neg64 dst) s = .next t) : Ends (.neg64 dst) s t := one_ends rfl rfl h
theorem Ends.neg32 (h : exec (.neg32 dst) s = .next t) : Ends (.neg32 dst) s t := one_ends rfl rfl h
theorem Ends.movsx64X8 (h : exec (.movsx64X8 dst src) s = .next t) :
    Ends (.movsx64X8 dst src) s t := one_ends rfl rfl h
theorem Ends.movsx64X16 (h : exec (.movsx64X16 dst src) s = .next t) :
    Ends (.movsx64X16 dst src) s t := one_ends rfl rfl h
theorem Ends.movsx64X32 (h : exec (.movsx64X32 dst src) s = .next t) :
    Ends (.movsx64X32 dst src) s t := one_ends rfl rfl h
theorem Ends.movsx64K8 (h : exec (.movsx64K8 dst imm) s = .next t) :
    Ends (.movsx64K8 dst imm) s t := .of_wrote rfl rfl h
theorem Ends.movsx64K16 (h : exec (.movsx64K16 dst imm) s = .next t) :
    Ends (.movsx64K16 dst imm) s t := .of_wrote rfl rfl h
theorem Ends.movsx64K32 (h : exec (.movsx64K32 dst imm) s = .next t) :
    Ends (.movsx64K32 dst imm) s t := .of_wrote rfl rfl h
theorem Ends.movsx32X8 (h : exec (.movsx32X8 dst src) s = .next t) :
    Ends (.movsx32X8 dst src) s t := one_ends rfl rfl h
theorem Ends.movsx32X16 (h : exec (.movsx32X16 dst src) s = .next t) :
    Ends (.movsx32X16 dst src) s t := one_ends rfl rfl h
theorem Ends.movsx32X32 (h : exec (.movsx32X32 dst src) s = .next t) :
    Ends (.movsx32X32 dst src) s t := one_ends rfl rfl h
theorem Ends.movsx32K8 (h : exec (.movsx32K8 dst imm) s = .next t) :
    Ends (.movsx32K8 dst imm) s t := .of_wrote rfl rfl h
theorem Ends.movsx32K16 (h : exec (.movsx32K16 dst imm) s = .next t) :
    Ends (.movsx32K16 dst imm) s t := .of_wrote rfl rfl h
theorem Ends.movsx32K32 (h : exec (.movsx32K32 dst imm) s = .next t) :
    Ends (.movsx32K32 dst imm) s t := .of_wrote rfl rfl h
theorem Ends.tole16 (h : exec (.tole16 dst) s = .next t) : Ends (.tole16 dst) s t := one_ends rfl rfl h
theorem Ends.tole32 (h : exec (.tole32 dst) s = .next t) : Ends (.tole32 dst) s t := one_ends rfl rfl h
theorem Ends.tole64 (h : exec (.tole64 dst) s = .next t) : Ends (.tole64 dst) s t := one_ends rfl rfl h
theorem Ends.tobe16 (h : exec (.tobe16 dst) s = .next t) : Ends (.tobe16 dst) s t := one_ends rfl rfl h
theorem Ends.tobe32 (h : exec (.tobe32 dst) s = .next t) : Ends (.tobe32 dst) s t := one_ends rfl rfl h
theorem Ends.tobe64 (h : exec (.tobe64 dst) s = .next t) : Ends (.tobe64 dst) s t := one_ends rfl rfl h
theorem Ends.bswap16 (h : exec (.bswap16 dst) s = .next t) : Ends (.bswap16 dst) s t := one_ends rfl rfl h
theorem Ends.bswap32 (h : exec (.bswap32 dst) s = .next t) : Ends (.bswap32 dst) s t := one_ends rfl rfl h
theorem Ends.bswap64 (h : exec (.bswap64 dst) s = .next t) : Ends (.bswap64 dst) s t := one_ends rfl rfl h
theorem Ends.ja (h : exec (.ja off) s = .next t) : Ends (.ja off) s t := .inr (.inr ⟨_, _, .jumped rfl, h⟩)
theorem Ends.ja32 (h : exec (.ja32 imm) s = .next t) : Ends (.ja32 imm) s t := .inr (.inr ⟨_, _, .jumped rfl, h⟩)
theorem Ends.jeqK (h : exec (.jeqK dst anySrc off imm) s = .next t) :
    Ends (.jeqK dst anySrc off imm) s t := jump64K_ends rfl h
theorem Ends.jeqX (h : exec (.jeqX dst src off) s = .next t) : Ends (.jeqX dst src off) s t := jump64X_ends rfl h
theorem Ends.jeq32K (h : exec (.jeq32K dst anySrc off imm) s = .next t) :
    Ends (.jeq32K dst anySrc off imm) s t := jump32K_ends rfl h
theorem Ends.jeq32X (h : exec (.jeq32X dst src off) s = .next t) : Ends (.jeq32X dst src off) s t := jump32X_ends rfl h
theorem Ends.jgtK (h : exec (.jgtK dst anySrc off imm) s = .next t) :
    Ends (.jgtK dst anySrc off imm) s t := jump64K_ends rfl h
theorem Ends.jgtX (h : exec (.jgtX dst src off) s = .next t) : Ends (.jgtX dst src off) s t := jump64X_ends rfl h
theorem Ends.jgt32K (h : exec (.jgt32K dst anySrc off imm) s = .next t) :
    Ends (.jgt32K dst anySrc off imm) s t := jump32K_ends rfl h
theorem Ends.jgt32X (h : exec (.jgt32X dst src off) s = .next t) : Ends (.jgt32X dst src off) s t := jump32X_ends rfl h
theorem Ends.jgeK (h : exec (.jgeK dst anySrc off imm) s = .next t) :
    Ends (.jgeK dst anySrc off imm) s t := jump64K_ends rfl h
theorem Ends.jgeX (h : exec (.jgeX dst src off) s = .next t) : Ends (.jgeX dst src off) s t := jump64X_ends rfl h
theorem Ends.jge32K (h : exec (.jge32K dst anySrc off imm) s = .next t) :
    Ends (.jge32K dst anySrc off imm) s t := jump32K_ends rfl h
theorem Ends.jge32X (h : exec (.jge32X dst src off) s = .next t) : Ends (.jge32X dst src off) s t := jump32X_ends rfl h
theorem Ends.jsetK (h : exec (.jsetK dst anySrc off imm) s = .next t) :
    Ends (.jsetK dst anySrc off imm) s t := jump64K_ends rfl h
theorem Ends.jsetX (h : exec (.jsetX dst src off) s = .next t) : Ends (.jsetX dst src off) s t := jump64X_ends rfl h
theorem Ends.jset32K (h : exec (.jset32K dst anySrc off imm) s = .next t) :
    Ends (.jset32K dst anySrc off imm) s t := jump32K_ends rfl h
theorem Ends.jset32X (h : exec (.jset32X dst src off) s = .next t) :
    Ends (.jset32X dst src off) s t := jump32X_ends rfl h
theorem Ends.jneK (h : exec (.jneK dst anySrc off imm) s = .next t) :
    Ends (.jneK dst anySrc off imm) s t := jump64K_ends rfl h
theorem Ends.jneX (h : exec (.jneX dst src off) s = .next t) : Ends (.jneX dst src off) s t := jump64X_ends rfl h
theorem Ends.jne32K (h : exec (.jne32K dst anySrc off imm) s = .next t) :
    Ends (.jne32K dst anySrc off imm) s t := jump32K_ends rfl h
theorem Ends.jne32X (h : exec (.jne32X dst src off) s = .next t) : Ends (.jne32X dst src off) s t := jump32X_ends rfl h
theorem Ends.jsgtK (h : exec (.jsgtK dst anySrc off imm) s = .next t) :
    Ends (.jsgtK dst anySrc off imm) s t := jump64K_ends rfl h
theorem Ends.jsgtX (h : exec (.jsgtX dst src off) s = .next t) : Ends (.jsgtX dst src off) s t := jump64X_ends rfl h
theorem Ends.jsgt32K (h : exec (.jsgt32K dst anySrc off imm) s = .next t) :
    Ends (.jsgt32K dst anySrc off imm) s t := jump32K_ends rfl h
theorem Ends.jsgt32X (h : exec (.jsgt32X dst src off) s = .next t) :
    Ends (.jsgt32X dst src off) s t := jump32X_ends rfl h
theorem Ends.jsgeK (h : exec (.jsgeK dst anySrc off imm) s = .next t) :
    Ends (.jsgeK dst anySrc off imm) s t := jump64K_ends rfl h
theorem Ends.jsgeX (h : exec (.jsgeX dst src off) s = .next t) : Ends (.jsgeX dst src off) s t := jump64X_ends rfl h
theorem Ends.jsge32K (h : exec (.jsge32K dst anySrc off imm) s = .next t) :
    Ends (.jsge32K dst anySrc off imm) s t := jump32K_ends rfl h
theorem Ends.jsge32X (h : exec (.jsge32X dst src off) s = .next t) :
    Ends (.jsge32X dst src off) s t := jump32X_ends rfl h
theorem Ends.jltK (h : exec (.jltK dst anySrc off imm) s = .next t) :
    Ends (.jltK dst anySrc off imm) s t := jump64K_ends rfl h
theorem Ends.jltX (h : exec (.jltX dst src off) s = .next t) : Ends (.jltX dst src off) s t := jump64X_ends rfl h
theorem Ends.jlt32K (h : exec (.jlt32K dst anySrc off imm) s = .next t) :
    Ends (.jlt32K dst anySrc off imm) s t := jump32K_ends rfl h
theorem Ends.jlt32X (h : exec (.jlt32X dst src off) s = .next t) : Ends (.jlt32X dst src off) s t := jump32X_ends rfl h
theorem Ends.jleK (h : exec (.jleK dst anySrc off imm) s = .next t) :
    Ends (.jleK dst anySrc off imm) s t := jump64K_ends rfl h
theorem Ends.jleX (h : exec (.jleX dst src off) s = .next t) : Ends (.jleX dst src off) s t := jump64X_ends rfl h
theorem Ends.jle32K (h : exec (.jle32K dst anySrc off imm) s = .next t) :
    Ends (.jle32K dst anySrc off imm) s t := jump32K_ends rfl h
theorem Ends.jle32X (h : exec (.jle32X dst src off) s = .next t) : Ends (.jle32X dst src off) s t := jump32X_ends rfl h
theorem Ends.jsltK (h : exec (.jsltK dst anySrc off imm) s = .next t) :
    Ends (.jsltK dst anySrc off imm) s t := jump64K_ends rfl h
theorem Ends.jsltX (h : exec (.jsltX dst src off) s = .next t) : Ends (.jsltX dst src off) s t := jump64X_ends rfl h
theorem Ends.jslt32K (h : exec (.jslt32K dst anySrc off imm) s = .next t) :
    Ends (.jslt32K dst anySrc off imm) s t := jump32K_ends rfl h
theorem Ends.jslt32X (h : exec (.jslt32X dst src off) s = .next t) :
    Ends (.jslt32X dst src off) s t := jump32X_ends rfl h
theorem Ends.jsleK (h : exec (.jsleK dst anySrc off imm) s = .next t) :
    Ends (.jsleK dst anySrc off imm) s t := jump64K_ends rfl h
theorem Ends.jsleX (h : exec (.jsleX dst src off) s = .next t) : Ends (.jsleX dst src off) s t := jump64X_ends rfl h
theorem Ends.jsle32K (h : exec (.jsle32K dst anySrc off imm) s = .next t) :
    Ends (.jsle32K dst anySrc off imm) s t := jump32K_ends rfl h
theorem Ends.jsle32X (h : exec (.jsle32X dst src off) s = .next t) :
    Ends (.jsle32X dst src off) s t := jump32X_ends rfl h
theorem Ends.callHelper (h : exec (.callHelper id) s = .next t) :
    Ends (.callHelper id) s t := callHelper_ends ⟨_, .inl rfl⟩ h
theorem Ends.callLocal (h : exec (.callLocal imm) s = .next t) : Ends (.callLocal imm) s t := callLocal_ends h
theorem Ends.callBtf (h : exec (.callBtf id) s = .next t) : Ends (.callBtf id) s t := callHelper_ends ⟨_, .inr rfl⟩ h
theorem Ends.exit (h : exec .exit s = .next t) : Ends .exit s t := exit_ends h
theorem Ends.ldxw (h : exec (.ldxw dst src off) s = .next t) : Ends (.ldxw dst src off) s t := load_ends rfl rfl rfl h
theorem Ends.ldxh (h : exec (.ldxh dst src off) s = .next t) : Ends (.ldxh dst src off) s t := load_ends rfl rfl rfl h
theorem Ends.ldxb (h : exec (.ldxb dst src off) s = .next t) : Ends (.ldxb dst src off) s t := load_ends rfl rfl rfl h
theorem Ends.ldxdw (h : exec (.ldxdw dst src off) s = .next t) :
    Ends (.ldxdw dst src off) s t := load_ends rfl rfl rfl h
theorem Ends.stw (h : exec (.stw dst off imm) s = .next t) : Ends (.stw dst off imm) s t := storeImm_ends rfl rfl h
theorem Ends.sth (h : exec (.sth dst off imm) s = .next t) : Ends (.sth dst off imm) s t := storeImm_ends rfl rfl h
theorem Ends.stb (h : exec (.stb dst off imm) s = .next t) : Ends (.stb dst off imm) s t := storeImm_ends rfl rfl h
theorem Ends.stdw (h : exec (.stdw dst off imm) s = .next t) : Ends (.stdw dst off imm) s t := storeImm_ends rfl rfl h
theorem Ends.stxw (h : exec (.stxw dst src off) s = .next t) : Ends (.stxw dst src off) s t := storeReg_ends rfl rfl h
theorem Ends.stxh (h : exec (.stxh dst src off) s = .next t) : Ends (.stxh dst src off) s t := storeReg_ends rfl rfl h
theorem Ends.stxb (h : exec (.stxb dst src off) s = .next t) : Ends (.stxb dst src off) s t := storeReg_ends rfl rfl h
theorem Ends.stxdw (h : exec (.stxdw dst src off) s = .next t) :
    Ends (.stxdw dst src off) s t := storeReg_ends rfl rfl h
theorem Ends.ldxsw (h : exec (.ldxsw dst src off) s = .next t) :
    Ends (.ldxsw dst src off) s t := load_ends rfl rfl rfl h
theorem Ends.ldxsh (h : exec (.ldxsh dst src off) s = .next t) :
    Ends (.ldxsh dst src off) s t := load_ends rfl rfl rfl h
theorem Ends.ldxsb (h : exec (.ldxsb dst src off) s = .next t) :
    Ends (.ldxsb dst src off) s t := load_ends rfl rfl rfl h
theorem Ends.lddw (h : exec (.lddw dst imm nextImm) s = .next t) :
    Ends (.lddw dst imm nextImm) s t := .of_wrote rfl rfl h
theorem Ends.lddwSubtype1 (h : exec (.lddwSubtype1 dst imm nextImm) s = .next t) :
    Ends (.lddwSubtype1 dst imm nextImm) s t := .of_wrote rfl rfl h
theorem Ends.lddwSubtype2 (h : exec (.lddwSubtype2 dst imm nextImm) s = .next t) :
    Ends (.lddwSubtype2 dst imm nextImm) s t := .of_wrote rfl rfl h
theorem Ends.lddwSubtype3 (h : exec (.lddwSubtype3 dst imm nextImm) s = .next t) :
    Ends (.lddwSubtype3 dst imm nextImm) s t := .of_wrote rfl rfl h
theorem Ends.lddwSubtype4 (h : exec (.lddwSubtype4 dst imm nextImm) s = .next t) :
    Ends (.lddwSubtype4 dst imm nextImm) s t := .of_wrote rfl rfl h
theorem Ends.lddwSubtype5 (h : exec (.lddwSubtype5 dst imm nextImm) s = .next t) :
    Ends (.lddwSubtype5 dst imm nextImm) s t := .of_wrote rfl rfl h
theorem Ends.lddwSubtype6 (h : exec (.lddwSubtype6 dst imm nextImm) s = .next t) :
    Ends (.lddwSubtype6 dst imm nextImm) s t := .of_wrote rfl rfl h
theorem Ends.atomic32Add (h : exec (.atomic32Add dst src off) s = .next t) :
    Ends (.atomic32Add dst src off) s t := atomicOp_ends rfl rfl h
theorem Ends.atomic32Or (h : exec (.atomic32Or dst src off) s = .next t) :
    Ends (.atomic32Or dst src off) s t := atomicOp_ends rfl rfl h
theorem Ends.atomic32And (h : exec (.atomic32And dst src off) s = .next t) :
    Ends (.atomic32And dst src off) s t := atomicOp_ends rfl rfl h
theorem Ends.atomic32Xor (h : exec (.atomic32Xor dst src off) s = .next t) :
    Ends (.atomic32Xor dst src off) s t := atomicOp_ends rfl rfl h
theorem Ends.atomic32FetchAdd (h : exec (.atomic32FetchAdd dst src off) s = .next t) :
    Ends (.atomic32FetchAdd dst src off) s t := atomicFetch_ends rfl rfl h
theorem Ends.atomic32FetchOr (h : exec (.atomic32FetchOr dst src off) s = .next t) :
    Ends (.atomic32FetchOr dst src off) s t := atomicFetch_ends rfl rfl h
theorem Ends.atomic32FetchAnd (h : exec (.atomic32FetchAnd dst src off) s = .next t) :
    Ends (.atomic32FetchAnd dst src off) s t := atomicFetch_ends rfl rfl h
theorem Ends.atomic32FetchXor (h : exec (.atomic32FetchXor dst src off) s = .next t) :
    Ends (.atomic32FetchXor dst src off) s t := atomicFetch_ends rfl rfl h
theorem Ends.atomic32Xchg (h : exec (.atomic32Xchg dst src off) s = .next t) :
    Ends (.atomic32Xchg dst src off) s t := atomicFetch_ends (op := fun _ v => v) rfl rfl h
theorem Ends.atomic32Cmpxchg (h : exec (.atomic32Cmpxchg dst src off) s = .next t) :
    Ends (.atomic32Cmpxchg dst src off) s t := atomicCmpxchg_ends rfl rfl h
theorem Ends.atomic64Add (h : exec (.atomic64Add dst src off) s = .next t) :
    Ends (.atomic64Add dst src off) s t := atomicOp_ends rfl rfl h
theorem Ends.atomic64Or (h : exec (.atomic64Or dst src off) s = .next t) :
    Ends (.atomic64Or dst src off) s t := atomicOp_ends rfl rfl h
theorem Ends.atomic64And (h : exec (.atomic64And dst src off) s = .next t) :
    Ends (.atomic64And dst src off) s t := atomicOp_ends rfl rfl h
theorem Ends.atomic64Xor (h : exec (.atomic64Xor dst src off) s = .next t) :
    Ends (.atomic64Xor dst src off) s t := atomicOp_ends rfl rfl h
theorem Ends.atomic64FetchAdd (h : exec (.atomic64FetchAdd dst src off) s = .next t) :
    Ends (.atomic64FetchAdd dst src off) s t := atomicFetch_ends rfl rfl h
theorem Ends.atomic64FetchOr (h : exec (.atomic64FetchOr dst src off) s = .next t) :
    Ends (.atomic64FetchOr dst src off) s t := atomicFetch_ends rfl rfl h
theorem Ends.atomic64FetchAnd (h : exec (.atomic64FetchAnd dst src off) s = .next t) :
    Ends (.atomic64FetchAnd dst src off) s t := atomicFetch_ends rfl rfl h
theorem Ends.atomic64FetchXor (h : exec (.atomic64FetchXor dst src off) s = .next t) :
    Ends (.atomic64FetchXor dst src off) s t := atomicFetch_ends rfl rfl h
theorem Ends.atomic64Xchg (h : exec (.atomic64Xchg dst src off) s = .next t) :
    Ends (.atomic64Xchg dst src off) s t := atomicFetch_ends (op := fun _ v => v) rfl rfl h
theorem Ends.atomic64Cmpxchg (h : exec (.atomic64Cmpxchg dst src off) s = .next t) :
    Ends (.atomic64Cmpxchg dst src off) s t := atomicCmpxchg_ends rfl rfl h
theorem Ends.ldabsw (h : exec (.ldabsw rest) s = .next t) : Ends (.ldabsw rest) s t := by cases h
theorem Ends.ldabsh (h : exec (.ldabsh rest) s = .next t) : Ends (.ldabsh rest) s t := by cases h
theorem Ends.ldabsb (h : exec (.ldabsb rest) s = .next t) : Ends (.ldabsb rest) s t := by cases h
theorem Ends.ldindw (h : exec (.ldindw rest) s = .next t) : Ends (.ldindw rest) s t := by cases h
theorem Ends.ldindh (h : exec (.ldindh rest) s = .next t) : Ends (.ldindh rest) s t := by cases h
theorem Ends.ldindb (h : exec (.ldindb rest) s = .next t) : Ends (.ldindb rest) s t := by cases h

/-- Everything that executing an instruction to a next state can do. -/
theorem exec_cases {i : Instr} {s t : State} (h : exec i s = .next t) : Ends i s t := by
  cases i with
  | add64K => exact .add64K h
  | add64X => exact .add64X h
  | add32K => exact .add32K h
  | add32X => exact .add32X h
  | sub64K => exact .sub64K h
  | sub64X => exact .sub64X h
  | sub32K => exact .sub32K h
  | sub32X => exact .sub32X h
  | mul64K => exact .mul64K h
  | mul64X => exact .mul64X h
  | mul32K => exact .mul32K h
  | mul32X => exact .mul32X h
  | div64K => exact .div64K h
  | div64X => exact .div64X h
  | div32K => exact .div32K h
  | div32X => exact .div32X h
  | sdiv64K => exact .sdiv64K h
  | sdiv64X => exact .sdiv64X h
  | sdiv32K => exact .sdiv32K h
  | sdiv32X => exact .sdiv32X h
  | or64K => exact .or64K h
  | or64X => exact .or64X h
  | or32K => exact .or32K h
  | or32X => exact .or32X h
  | and64K => exact .and64K h
  | and64X => exact .and64X h
  | and32K => exact .and32K h
  | and32X => exact .and32X h
  | lsh64K => exact .lsh64K h
  | lsh64X => exact .lsh64X h
  | lsh32K => exact .lsh32K h
  | lsh32X => exact .lsh32X h
  | rsh64K => exact .rsh64K h
  | rsh64X => exact .rsh64X h
  | rsh32K => exact .rsh32K h
  | rsh32X => exact .rsh32X h
  | mod64K => exact .mod64K h
  | mod64X => exact .mod64X h
  | mod32K => exact .mod32K h
  | mod32X => exact .mod32X h
  | smod64K => exact .smod64K h
  | smod64X => exact .smod64X h
  | smod32K => exact .smod32K h
  | smod32X => exact .smod32X h
  | xor64K => exact .xor64K h
  | xor64X => exact .xor64X h
  | xor32K => exact .xor32K h
  | xor32X => exact .xor32X h
  | mov64K => exact .mov64K h
  | mov64X => exact .mov64X h
  | mov32K => exact .mov32K h
  | mov32X => exact .mov32X h
  | arsh64K => exact .arsh64K h
  | arsh64X => exact .arsh64X h
  | arsh32K => exact .arsh32K h
  | arsh32X => exact .arsh32X h
  | neg64 => exact .neg64 h
  | neg32 => exact .neg32 h
  | movsx64X8 => exact .movsx64X8 h
  | movsx64X16 => exact .movsx64X16 h
  | movsx64X32 => exact .movsx64X32 h
  | movsx64K8 => exact .movsx64K8 h
  | movsx64K16 => exact .movsx64K16 h
  | movsx64K32 => exact .movsx64K32 h
  | movsx32X8 => exact .movsx32X8 h
  | movsx32X16 => exact .movsx32X16 h
  | movsx32X32 => exact .movsx32X32 h
  | movsx32K8 => exact .movsx32K8 h
  | movsx32K16 => exact .movsx32K16 h
  | movsx32K32 => exact .movsx32K32 h
  | tole16 => exact .tole16 h
  | tole32 => exact .tole32 h
  | tole64 => exact .tole64 h
  | tobe16 => exact .tobe16 h
  | tobe32 => exact .tobe32 h
  | tobe64 => exact .tobe64 h
  | bswap16 => exact .bswap16 h
  | bswap32 => exact .bswap32 h
  | bswap64 => exact .bswap64 h
  | ja => exact .ja h
  | ja32 => exact .ja32 h
  | jeqK => exact .jeqK h
  | jeqX => exact .jeqX h
  | jeq32K => exact .jeq32K h
  | jeq32X => exact .jeq32X h
  | jgtK => exact .jgtK h
  | jgtX => exact .jgtX h
  | jgt32K => exact .jgt32K h
  | jgt32X => exact .jgt32X h
  | jgeK => exact .jgeK h
  | jgeX => exact .jgeX h
  | jge32K => exact .jge32K h
  | jge32X => exact .jge32X h
  | jsetK => exact .jsetK h
  | jsetX => exact .jsetX h
  | jset32K => exact .jset32K h
  | jset32X => exact .jset32X h
  | jneK => exact .jneK h
  | jneX => exact .jneX h
  | jne32K => exact .jne32K h
  | jne32X => exact .jne32X h
  | jsgtK => exact .jsgtK h
  | jsgtX => exact .jsgtX h
  | jsgt32K => exact .jsgt32K h
  | jsgt32X => exact .jsgt32X h
  | jsgeK => exact .jsgeK h
  | jsgeX => exact .jsgeX h
  | jsge32K => exact .jsge32K h
  | jsge32X => exact .jsge32X h
  | jltK => exact .jltK h
  | jltX => exact .jltX h
  | jlt32K => exact .jlt32K h
  | jlt32X => exact .jlt32X h
  | jleK => exact .jleK h
  | jleX => exact .jleX h
  | jle32K => exact .jle32K h
  | jle32X => exact .jle32X h
  | jsltK => exact .jsltK h
  | jsltX => exact .jsltX h
  | jslt32K => exact .jslt32K h
  | jslt32X => exact .jslt32X h
  | jsleK => exact .jsleK h
  | jsleX => exact .jsleX h
  | jsle32K => exact .jsle32K h
  | jsle32X => exact .jsle32X h
  | callHelper => exact .callHelper h
  | callLocal => exact .callLocal h
  | callBtf => exact .callBtf h
  | exit => exact .exit h
  | ldxw => exact .ldxw h
  | ldxh => exact .ldxh h
  | ldxb => exact .ldxb h
  | ldxdw => exact .ldxdw h
  | stw => exact .stw h
  | sth => exact .sth h
  | stb => exact .stb h
  | stdw => exact .stdw h
  | stxw => exact .stxw h
  | stxh => exact .stxh h
  | stxb => exact .stxb h
  | stxdw => exact .stxdw h
  | ldxsw => exact .ldxsw h
  | ldxsh => exact .ldxsh h
  | ldxsb => exact .ldxsb h
  | lddw => exact .lddw h
  | lddwSubtype1 => exact .lddwSubtype1 h
  | lddwSubtype2 => exact .lddwSubtype2 h
  | lddwSubtype3 => exact .lddwSubtype3 h
  | lddwSubtype4 => exact .lddwSubtype4 h
  | lddwSubtype5 => exact .lddwSubtype5 h
  | lddwSubtype6 => exact .lddwSubtype6 h
  | atomic32Add => exact .atomic32Add h
  | atomic32Or => exact .atomic32Or h
  | atomic32And => exact .atomic32And h
  | atomic32Xor => exact .atomic32Xor h
  | atomic32FetchAdd => exact .atomic32FetchAdd h
  | atomic32FetchOr => exact .atomic32FetchOr h
  | atomic32FetchAnd => exact .atomic32FetchAnd h
  | atomic32FetchXor => exact .atomic32FetchXor h
  | atomic32Xchg => exact .atomic32Xchg h
  | atomic32Cmpxchg => exact .atomic32Cmpxchg h
  | atomic64Add => exact .atomic64Add h
  | atomic64Or => exact .atomic64Or h
  | atomic64And => exact .atomic64And h
  | atomic64Xor => exact .atomic64Xor h
  | atomic64FetchAdd => exact .atomic64FetchAdd h
  | atomic64FetchOr => exact .atomic64FetchOr h
  | atomic64FetchAnd => exact .atomic64FetchAnd h
  | atomic64FetchXor => exact .atomic64FetchXor h
  | atomic64Xchg => exact .atomic64Xchg h
  | atomic64Cmpxchg => exact .atomic64Cmpxchg h
  | ldabsw => exact .ldabsw h
  | ldabsh => exact .ldabsh h
  | ldabsb => exact .ldabsb h
  | ldindw => exact .ldindw h
  | ldindh => exact .ldindh h
  | ldindb => exact .ldindb h

end Sys2Proof.Machine
end

