-- ==== Sys2Proof/Laws/PerInstr.lean ====
section
/-! SUPPORT. The family of facts about each instruction as it is written: how many slots its encoding fills, and that it
fills two exactly when its opcode byte is 0x18 (R60, R87). -/

namespace Sys2Proof.Laws

/-- The encoding of an instruction has as many slots as the instruction says, two of them exactly for opcode 0x18. -/
def SlotCount.Statement (i : Instr) : Prop :=
  (∀ e, (encode e i).length = i.slots) ∧ (i.fields.opcode = 0x18#8 ↔ i.slots = 2)

/-- A basic instruction whose opcode byte is not 0x18. -/
theorem slotCount_basic {i : Instr} (h : i.nextImm = none) (ho : i.fields.opcode ≠ 0x18#8) : SlotCount.Statement i :=
  ⟨fun e => by simp [encode, Instr.slots, h], by simp [Instr.slots, h, ho]⟩

/-- An extended instruction: opcode byte 0x18. -/
theorem slotCount_extended {i : Instr} {n : Imm} (h : i.nextImm = some n) (ho : i.fields.opcode = 0x18#8) :
    SlotCount.Statement i :=
  ⟨fun e => by simp [encode, Instr.slots, h], by simp [Instr.slots, h, ho]⟩

theorem SlotCount.add64K (dst : Reg) (imm : Imm) : SlotCount.Statement (.add64K dst imm) :=
  slotCount_basic rfl (by decide : (0x07#8 : BitVec 8) ≠ 0x18#8)
theorem SlotCount.add64X (dst src : Reg) : SlotCount.Statement (.add64X dst src) :=
  slotCount_basic rfl (by decide : (0x0f#8 : BitVec 8) ≠ 0x18#8)
theorem SlotCount.add32K (dst : Reg) (imm : Imm) : SlotCount.Statement (.add32K dst imm) :=
  slotCount_basic rfl (by decide : (0x04#8 : BitVec 8) ≠ 0x18#8)
theorem SlotCount.add32X (dst src : Reg) : SlotCount.Statement (.add32X dst src) :=
  slotCount_basic rfl (by decide : (0x0c#8 : BitVec 8) ≠ 0x18#8)
theorem SlotCount.sub64K (dst : Reg) (imm : Imm) : SlotCount.Statement (.sub64K dst imm) :=
  slotCount_basic rfl (by decide : (0x17#8 : BitVec 8) ≠ 0x18#8)
theorem SlotCount.sub64X (dst src : Reg) : SlotCount.Statement (.sub64X dst src) :=
  slotCount_basic rfl (by decide : (0x1f#8 : BitVec 8) ≠ 0x18#8)
theorem SlotCount.sub32K (dst : Reg) (imm : Imm) : SlotCount.Statement (.sub32K dst imm) :=
  slotCount_basic rfl (by decide : (0x14#8 : BitVec 8) ≠ 0x18#8)
theorem SlotCount.sub32X (dst src : Reg) : SlotCount.Statement (.sub32X dst src) :=
  slotCount_basic rfl (by decide : (0x1c#8 : BitVec 8) ≠ 0x18#8)
theorem SlotCount.mul64K (dst : Reg) (imm : Imm) : SlotCount.Statement (.mul64K dst imm) :=
  slotCount_basic rfl (by decide : (0x27#8 : BitVec 8) ≠ 0x18#8)
theorem SlotCount.mul64X (dst src : Reg) : SlotCount.Statement (.mul64X dst src) :=
  slotCount_basic rfl (by decide : (0x2f#8 : BitVec 8) ≠ 0x18#8)
theorem SlotCount.mul32K (dst : Reg) (imm : Imm) : SlotCount.Statement (.mul32K dst imm) :=
  slotCount_basic rfl (by decide : (0x24#8 : BitVec 8) ≠ 0x18#8)
theorem SlotCount.mul32X (dst src : Reg) : SlotCount.Statement (.mul32X dst src) :=
  slotCount_basic rfl (by decide : (0x2c#8 : BitVec 8) ≠ 0x18#8)
theorem SlotCount.div64K (dst : Reg) (imm : Imm) : SlotCount.Statement (.div64K dst imm) :=
  slotCount_basic rfl (by decide : (0x37#8 : BitVec 8) ≠ 0x18#8)
theorem SlotCount.div64X (dst src : Reg) : SlotCount.Statement (.div64X dst src) :=
  slotCount_basic rfl (by decide : (0x3f#8 : BitVec 8) ≠ 0x18#8)
theorem SlotCount.div32K (dst : Reg) (imm : Imm) : SlotCount.Statement (.div32K dst imm) :=
  slotCount_basic rfl (by decide : (0x34#8 : BitVec 8) ≠ 0x18#8)
theorem SlotCount.div32X (dst src : Reg) : SlotCount.Statement (.div32X dst src) :=
  slotCount_basic rfl (by decide : (0x3c#8 : BitVec 8) ≠ 0x18#8)
theorem SlotCount.sdiv64K (dst : Reg) (imm : Imm) : SlotCount.Statement (.sdiv64K dst imm) :=
  slotCount_basic rfl (by decide : (0x37#8 : BitVec 8) ≠ 0x18#8)
theorem SlotCount.sdiv64X (dst src : Reg) : SlotCount.Statement (.sdiv64X dst src) :=
  slotCount_basic rfl (by decide : (0x3f#8 : BitVec 8) ≠ 0x18#8)
theorem SlotCount.sdiv32K (dst : Reg) (imm : Imm) : SlotCount.Statement (.sdiv32K dst imm) :=
  slotCount_basic rfl (by decide : (0x34#8 : BitVec 8) ≠ 0x18#8)
theorem SlotCount.sdiv32X (dst src : Reg) : SlotCount.Statement (.sdiv32X dst src) :=
  slotCount_basic rfl (by decide : (0x3c#8 : BitVec 8) ≠ 0x18#8)
theorem SlotCount.or64K (dst : Reg) (imm : Imm) : SlotCount.Statement (.or64K dst imm) :=
  slotCount_basic rfl (by decide : (0x47#8 : BitVec 8) ≠ 0x18#8)
theorem SlotCount.or64X (dst src : Reg) : SlotCount.Statement (.or64X dst src) :=
  slotCount_basic rfl (by decide : (0x4f#8 : BitVec 8) ≠ 0x18#8)
theorem SlotCount.or32K (dst : Reg) (imm : Imm) : SlotCount.Statement (.or32K dst imm) :=
  slotCount_basic rfl (by decide : (0x44#8 : BitVec 8) ≠ 0x18#8)
theorem SlotCount.or32X (dst src : Reg) : SlotCount.Statement (.or32X dst src) :=
  slotCount_basic rfl (by decide : (0x4c#8 : BitVec 8) ≠ 0x18#8)
theorem SlotCount.and64K (dst : Reg) (imm : Imm) : SlotCount.Statement (.and64K dst imm) :=
  slotCount_basic rfl (by decide : (0x57#8 : BitVec 8) ≠ 0x18#8)
theorem SlotCount.and64X (dst src : Reg) : SlotCount.Statement (.and64X dst src) :=
  slotCount_basic rfl (by decide : (0x5f#8 : BitVec 8) ≠ 0x18#8)
theorem SlotCount.and32K (dst : Reg) (imm : Imm) : SlotCount.Statement (.and32K dst imm) :=
  slotCount_basic rfl (by decide : (0x54#8 : BitVec 8) ≠ 0x18#8)
theorem SlotCount.and32X (dst src : Reg) : SlotCount.Statement (.and32X dst src) :=
  slotCount_basic rfl (by decide : (0x5c#8 : BitVec 8) ≠ 0x18#8)
theorem SlotCount.lsh64K (dst : Reg) (imm : Imm) : SlotCount.Statement (.lsh64K dst imm) :=
  slotCount_basic rfl (by decide : (0x67#8 : BitVec 8) ≠ 0x18#8)
theorem SlotCount.lsh64X (dst src : Reg) : SlotCount.Statement (.lsh64X dst src) :=
  slotCount_basic rfl (by decide : (0x6f#8 : BitVec 8) ≠ 0x18#8)
theorem SlotCount.lsh32K (dst : Reg) (imm : Imm) : SlotCount.Statement (.lsh32K dst imm) :=
  slotCount_basic rfl (by decide : (0x64#8 : BitVec 8) ≠ 0x18#8)
theorem SlotCount.lsh32X (dst src : Reg) : SlotCount.Statement (.lsh32X dst src) :=
  slotCount_basic rfl (by decide : (0x6c#8 : BitVec 8) ≠ 0x18#8)
theorem SlotCount.rsh64K (dst : Reg) (imm : Imm) : SlotCount.Statement (.rsh64K dst imm) :=
  slotCount_basic rfl (by decide : (0x77#8 : BitVec 8) ≠ 0x18#8)
theorem SlotCount.rsh64X (dst src : Reg) : SlotCount.Statement (.rsh64X dst src) :=
  slotCount_basic rfl (by decide : (0x7f#8 : BitVec 8) ≠ 0x18#8)
theorem SlotCount.rsh32K (dst : Reg) (imm : Imm) : SlotCount.Statement (.rsh32K dst imm) :=
  slotCount_basic rfl (by decide : (0x74#8 : BitVec 8) ≠ 0x18#8)
theorem SlotCount.rsh32X (dst src : Reg) : SlotCount.Statement (.rsh32X dst src) :=
  slotCount_basic rfl (by decide : (0x7c#8 : BitVec 8) ≠ 0x18#8)
theorem SlotCount.mod64K (dst : Reg) (imm : Imm) : SlotCount.Statement (.mod64K dst imm) :=
  slotCount_basic rfl (by decide : (0x97#8 : BitVec 8) ≠ 0x18#8)
theorem SlotCount.mod64X (dst src : Reg) : SlotCount.Statement (.mod64X dst src) :=
  slotCount_basic rfl (by decide : (0x9f#8 : BitVec 8) ≠ 0x18#8)
theorem SlotCount.mod32K (dst : Reg) (imm : Imm) : SlotCount.Statement (.mod32K dst imm) :=
  slotCount_basic rfl (by decide : (0x94#8 : BitVec 8) ≠ 0x18#8)
theorem SlotCount.mod32X (dst src : Reg) : SlotCount.Statement (.mod32X dst src) :=
  slotCount_basic rfl (by decide : (0x9c#8 : BitVec 8) ≠ 0x18#8)
theorem SlotCount.smod64K (dst : Reg) (imm : Imm) : SlotCount.Statement (.smod64K dst imm) :=
  slotCount_basic rfl (by decide : (0x97#8 : BitVec 8) ≠ 0x18#8)
theorem SlotCount.smod64X (dst src : Reg) : SlotCount.Statement (.smod64X dst src) :=
  slotCount_basic rfl (by decide : (0x9f#8 : BitVec 8) ≠ 0x18#8)
theorem SlotCount.smod32K (dst : Reg) (imm : Imm) : SlotCount.Statement (.smod32K dst imm) :=
  slotCount_basic rfl (by decide : (0x94#8 : BitVec 8) ≠ 0x18#8)
theorem SlotCount.smod32X (dst src : Reg) : SlotCount.Statement (.smod32X dst src) :=
  slotCount_basic rfl (by decide : (0x9c#8 : BitVec 8) ≠ 0x18#8)
theorem SlotCount.xor64K (dst : Reg) (imm : Imm) : SlotCount.Statement (.xor64K dst imm) :=
  slotCount_basic rfl (by decide : (0xa7#8 : BitVec 8) ≠ 0x18#8)
theorem SlotCount.xor64X (dst src : Reg) : SlotCount.Statement (.xor64X dst src) :=
  slotCount_basic rfl (by decide : (0xaf#8 : BitVec 8) ≠ 0x18#8)
theorem SlotCount.xor32K (dst : Reg) (imm : Imm) : SlotCount.Statement (.xor32K dst imm) :=
  slotCount_basic rfl (by decide : (0xa4#8 : BitVec 8) ≠ 0x18#8)
theorem SlotCount.xor32X (dst src : Reg) : SlotCount.Statement (.xor32X dst src) :=
  slotCount_basic rfl (by decide : (0xac#8 : BitVec 8) ≠ 0x18#8)
theorem SlotCount.mov64K (dst : Reg) (imm : Imm) : SlotCount.Statement (.mov64K dst imm) :=
  slotCount_basic rfl (by decide : (0xb7#8 : BitVec 8) ≠ 0x18#8)
theorem SlotCount.mov64X (dst src : Reg) : SlotCount.Statement (.mov64X dst src) :=
  slotCount_basic rfl (by decide : (0xbf#8 : BitVec 8) ≠ 0x18#8)
theorem SlotCount.mov32K (dst : Reg) (imm : Imm) : SlotCount.Statement (.mov32K dst imm) :=
  slotCount_basic rfl (by decide : (0xb4#8 : BitVec 8) ≠ 0x18#8)
theorem SlotCount.mov32X (dst src : Reg) : SlotCount.Statement (.mov32X dst src) :=
  slotCount_basic rfl (by decide : (0xbc#8 : BitVec 8) ≠ 0x18#8)
theorem SlotCount.arsh64K (dst : Reg) (imm : Imm) : SlotCount.Statement (.arsh64K dst imm) :=
  slotCount_basic rfl (by decide : (0xc7#8 : BitVec 8) ≠ 0x18#8)
theorem SlotCount.arsh64X (dst src : Reg) : SlotCount.Statement (.arsh64X dst src) :=
  slotCount_basic rfl (by decide : (0xcf#8 : BitVec 8) ≠ 0x18#8)
theorem SlotCount.arsh32K (dst : Reg) (imm : Imm) : SlotCount.Statement (.arsh32K dst imm) :=
  slotCount_basic rfl (by decide : (0xc4#8 : BitVec 8) ≠ 0x18#8)
theorem SlotCount.arsh32X (dst src : Reg) : SlotCount.Statement (.arsh32X dst src) :=
  slotCount_basic rfl (by decide : (0xcc#8 : BitVec 8) ≠ 0x18#8)
theorem SlotCount.neg64 (dst : Reg) : SlotCount.Statement (.neg64 dst) :=
  slotCount_basic rfl (by decide : (0x87#8 : BitVec 8) ≠ 0x18#8)
theorem SlotCount.neg32 (dst : Reg) : SlotCount.Statement (.neg32 dst) :=
  slotCount_basic rfl (by decide : (0x84#8 : BitVec 8) ≠ 0x18#8)
theorem SlotCount.movsx64X8 (dst src : Reg) : SlotCount.Statement (.movsx64X8 dst src) :=
  slotCount_basic rfl (by decide : (0xbf#8 : BitVec 8) ≠ 0x18#8)
theorem SlotCount.movsx64X16 (dst src : Reg) : SlotCount.Statement (.movsx64X16 dst src) :=
  slotCount_basic rfl (by decide : (0xbf#8 : BitVec 8) ≠ 0x18#8)
theorem SlotCount.movsx64X32 (dst src : Reg) : SlotCount.Statement (.movsx64X32 dst src) :=
  slotCount_basic rfl (by decide : (0xbf#8 : BitVec 8) ≠ 0x18#8)
theorem SlotCount.movsx64K8 (dst : Reg) (imm : Imm) : SlotCount.Statement (.movsx64K8 dst imm) :=
  slotCount_basic rfl (by decide : (0xb7#8 : BitVec 8) ≠ 0x18#8)
theorem SlotCount.movsx64K16 (dst : Reg) (imm : Imm) : SlotCount.Statement (.movsx64K16 dst imm) :=
  slotCount_basic rfl (by decide : (0xb7#8 : BitVec 8) ≠ 0x18#8)
theorem SlotCount.movsx64K32 (dst : Reg) (imm : Imm) : SlotCount.Statement (.movsx64K32 dst imm) :=
  slotCount_basic rfl (by decide : (0xb7#8 : BitVec 8) ≠ 0x18#8)
theorem SlotCount.movsx32X8 (dst src : Reg) : SlotCount.Statement (.movsx32X8 dst src) :=
  slotCount_basic rfl (by decide : (0xbc#8 : BitVec 8) ≠ 0x18#8)
theorem SlotCount.movsx32X16 (dst src : Reg) : SlotCount.Statement (.movsx32X16 dst src) :=
  slotCount_basic rfl (by decide : (0xbc#8 : BitVec 8) ≠ 0x18#8)
theorem SlotCount.movsx32X32 (dst src : Reg) : SlotCount.Statement (.movsx32X32 dst src) :=
  slotCount_basic rfl (by decide : (0xbc#8 : BitVec 8) ≠ 0x18#8)
theorem SlotCount.movsx32K8 (dst : Reg) (imm : Imm) : SlotCount.Statement (.movsx32K8 dst imm) :=
  slotCount_basic rfl (by decide : (0xb4#8 : BitVec 8) ≠ 0x18#8)
theorem SlotCount.movsx32K16 (dst : Reg) (imm : Imm) : SlotCount.Statement (.movsx32K16 dst imm) :=
  slotCount_basic rfl (by decide : (0xb4#8 : BitVec 8) ≠ 0x18#8)
theorem SlotCount.movsx32K32 (dst : Reg) (imm : Imm) : SlotCount.Statement (.movsx32K32 dst imm) :=
  slotCount_basic rfl (by decide : (0xb4#8 : BitVec 8) ≠ 0x18#8)
theorem SlotCount.tole16 (dst : Reg) : SlotCount.Statement (.tole16 dst) :=
  slotCount_basic rfl (by decide : (0xd4#8 : BitVec 8) ≠ 0x18#8)
theorem SlotCount.tole32 (dst : Reg) : SlotCount.Statement (.tole32 dst) :=
  slotCount_basic rfl (by decide : (0xd4#8 : BitVec 8) ≠ 0x18#8)
theorem SlotCount.tole64 (dst : Reg) : SlotCount.Statement (.tole64 dst) :=
  slotCount_basic rfl (by decide : (0xd4#8 : BitVec 8) ≠ 0x18#8)
theorem SlotCount.tobe16 (dst : Reg) : SlotCount.Statement (.tobe16 dst) :=
  slotCount_basic rfl (by decide : (0xdc#8 : BitVec 8) ≠ 0x18#8)
theorem SlotCount.tobe32 (dst : Reg) : SlotCount.Statement (.tobe32 dst) :=
  slotCount_basic rfl (by decide : (0xdc#8 : BitVec 8) ≠ 0x18#8)
theorem SlotCount.tobe64 (dst : Reg) : SlotCount.Statement (.tobe64 dst) :=
  slotCount_basic rfl (by decide : (0xdc#8 : BitVec 8) ≠ 0x18#8)
theorem SlotCount.bswap16 (dst : Reg) : SlotCount.Statement (.bswap16 dst) :=
  slotCount_basic rfl (by decide : (0xd7#8 : BitVec 8) ≠ 0x18#8)
theorem SlotCount.bswap32 (dst : Reg) : SlotCount.Statement (.bswap32 dst) :=
  slotCount_basic rfl (by decide : (0xd7#8 : BitVec 8) ≠ 0x18#8)
theorem SlotCount.bswap64 (dst : Reg) : SlotCount.Statement (.bswap64 dst) :=
  slotCount_basic rfl (by decide : (0xd7#8 : BitVec 8) ≠ 0x18#8)
theorem SlotCount.ja (off : Off) : SlotCount.Statement (.ja off) :=
  slotCount_basic rfl (by decide : (0x05#8 : BitVec 8) ≠ 0x18#8)
theorem SlotCount.ja32 (imm : Imm) : SlotCount.Statement (.ja32 imm) :=
  slotCount_basic rfl (by decide : (0x06#8 : BitVec 8) ≠ 0x18#8)
theorem SlotCount.jeqK (dst : Reg) (anySrc : Nibble) (off : Off) (imm : Imm) : SlotCount.Statement (.jeqK dst anySrc off imm) :=
  slotCount_basic rfl (by decide : (0x15#8 : BitVec 8) ≠ 0x18#8)
theorem SlotCount.jeqX (dst src : Reg) (off : Off) : SlotCount.Statement (.jeqX dst src off) :=
  slotCount_basic rfl (by decide : (0x1d#8 : BitVec 8) ≠ 0x18#8)
theorem SlotCount.jeq32K (dst : Reg) (anySrc : Nibble) (off : Off) (imm : Imm) : SlotCount.Statement (.jeq32K dst anySrc off imm) :=
  slotCount_basic rfl (by decide : (0x16#8 : BitVec 8) ≠ 0x18#8)
theorem SlotCount.jeq32X (dst src : Reg) (off : Off) : SlotCount.Statement (.jeq32X dst src off) :=
  slotCount_basic rfl (by decide : (0x1e#8 : BitVec 8) ≠ 0x18#8)
theorem SlotCount.jgtK (dst : Reg) (anySrc : Nibble) (off : Off) (imm : Imm) : SlotCount.Statement (.jgtK dst anySrc off imm) :=
  slotCount_basic rfl (by decide : (0x25#8 : BitVec 8) ≠ 0x18#8)
theorem SlotCount.jgtX (dst src : Reg) (off : Off) : SlotCount.Statement (.jgtX dst src off) :=
  slotCount_basic rfl (by decide : (0x2d#8 : BitVec 8) ≠ 0x18#8)
theorem SlotCount.jgt32K (dst : Reg) (anySrc : Nibble) (off : Off) (imm : Imm) : SlotCount.Statement (.jgt32K dst anySrc off imm) :=
  slotCount_basic rfl (by decide : (0x26#8 : BitVec 8) ≠ 0x18#8)
theorem SlotCount.jgt32X (dst src : Reg) (off : Off) : SlotCount.Statement (.jgt32X dst src off) :=
  slotCount_basic rfl (by decide : (0x2e#8 : BitVec 8) ≠ 0x18#8)
theorem SlotCount.jgeK (dst : Reg) (anySrc : Nibble) (off : Off) (imm : Imm) : SlotCount.Statement (.jgeK dst anySrc off imm) :=
  slotCount_basic rfl (by decide : (0x35#8 : BitVec 8) ≠ 0x18#8)
theorem SlotCount.jgeX (dst src : Reg) (off : Off) : SlotCount.Statement (.jgeX dst src off) :=
  slotCount_basic rfl (by decide : (0x3d#8 : BitVec 8) ≠ 0x18#8)
theorem SlotCount.jge32K (dst : Reg) (anySrc : Nibble) (off : Off) (imm : Imm) : SlotCount.Statement (.jge32K dst anySrc off imm) :=
  slotCount_basic rfl (by decide : (0x36#8 : BitVec 8) ≠ 0x18#8)
theorem SlotCount.jge32X (dst src : Reg) (off : Off) : SlotCount.Statement (.jge32X dst src off) :=
  slotCount_basic rfl (by decide : (0x3e#8 : BitVec 8) ≠ 0x18#8)
theorem SlotCount.jsetK (dst : Reg) (anySrc : Nibble) (off : Off) (imm : Imm) : SlotCount.Statement (.jsetK dst anySrc off imm) :=
  slotCount_basic rfl (by decide : (0x45#8 : BitVec 8) ≠ 0x18#8)
theorem SlotCount.jsetX (dst src : Reg) (off : Off) : SlotCount.Statement (.jsetX dst src off) :=
  slotCount_basic rfl (by decide : (0x4d#8 : BitVec 8) ≠ 0x18#8)
theorem SlotCount.jset32K (dst : Reg) (anySrc : Nibble) (off : Off) (imm : Imm) : SlotCount.Statement (.jset32K dst anySrc off imm) :=
  slotCount_basic rfl (by decide : (0x46#8 : BitVec 8) ≠ 0x18#8)
theorem SlotCount.jset32X (dst src : Reg) (off : Off) : SlotCount.Statement (.jset32X dst src off) :=
  slotCount_basic rfl (by decide : (0x4e#8 : BitVec 8) ≠ 0x18#8)
theorem SlotCount.jneK (dst : Reg) (anySrc : Nibble) (off : Off) (imm : Imm) : SlotCount.Statement (.jneK dst anySrc off imm) :=
  slotCount_basic rfl (by decide : (0x55#8 : BitVec 8) ≠ 0x18#8)
theorem SlotCount.jneX (dst src : Reg) (off : Off) : SlotCount.Statement (.jneX dst src off) :=
  slotCount_basic rfl (by decide : (0x5d#8 : BitVec 8) ≠ 0x18#8)
theorem SlotCount.jne32K (dst : Reg) (anySrc : Nibble) (off : Off) (imm : Imm) : SlotCount.Statement (.jne32K dst anySrc off imm) :=
  slotCount_basic rfl (by decide : (0x56#8 : BitVec 8) ≠ 0x18#8)
theorem SlotCount.jne32X (dst src : Reg) (off : Off) : SlotCount.Statement (.jne32X dst src off) :=
  slotCount_basic rfl (by decide : (0x5e#8 : BitVec 8) ≠ 0x18#8)
theorem SlotCount.jsgtK (dst : Reg) (anySrc : Nibble) (off : Off) (imm : Imm) : SlotCount.Statement (.jsgtK dst anySrc off imm) :=
  slotCount_basic rfl (by decide : (0x65#8 : BitVec 8) ≠ 0x18#8)
theorem SlotCount.jsgtX (dst src : Reg) (off : Off) : SlotCount.Statement (.jsgtX dst src off) :=
  slotCount_basic rfl (by decide : (0x6d#8 : BitVec 8) ≠ 0x18#8)
theorem SlotCount.jsgt32K (dst : Reg) (anySrc : Nibble) (off : Off) (imm : Imm) : SlotCount.Statement (.jsgt32K dst anySrc off imm) :=
  slotCount_basic rfl (by decide : (0x66#8 : BitVec 8) ≠ 0x18#8)
theorem SlotCount.jsgt32X (dst src : Reg) (off : Off) : SlotCount.Statement (.jsgt32X dst src off) :=
  slotCount_basic rfl (by decide : (0x6e#8 : BitVec 8) ≠ 0x18#8)
theorem SlotCount.jsgeK (dst : Reg) (anySrc : Nibble) (off : Off) (imm : Imm) : SlotCount.Statement (.jsgeK dst anySrc off imm) :=
  slotCount_basic rfl (by decide : (0x75#8 : BitVec 8) ≠ 0x18#8)
theorem SlotCount.jsgeX (dst src : Reg) (off : Off) : SlotCount.Statement (.jsgeX dst src off) :=
  slotCount_basic rfl (by decide : (0x7d#8 : BitVec 8) ≠ 0x18#8)
theorem SlotCount.jsge32K (dst : Reg) (anySrc : Nibble) (off : Off) (imm : Imm) : SlotCount.Statement (.jsge32K dst anySrc off imm) :=
  slotCount_basic rfl (by decide : (0x76#8 : BitVec 8) ≠ 0x18#8)
theorem SlotCount.jsge32X (dst src : Reg) (off : Off) : SlotCount.Statement (.jsge32X dst src off) :=
  slotCount_basic rfl (by decide : (0x7e#8 : BitVec 8) ≠ 0x18#8)
theorem SlotCount.jltK (dst : Reg) (anySrc : Nibble) (off : Off) (imm : Imm) : SlotCount.Statement (.jltK dst anySrc off imm) :=
  slotCount_basic rfl (by decide : (0xa5#8 : BitVec 8) ≠ 0x18#8)
theorem SlotCount.jltX (dst src : Reg) (off : Off) : SlotCount.Statement (.jltX dst src off) :=
  slotCount_basic rfl (by decide : (0xad#8 : BitVec 8) ≠ 0x18#8)
theorem SlotCount.jlt32K (dst : Reg) (anySrc : Nibble) (off : Off) (imm : Imm) : SlotCount.Statement (.jlt32K dst anySrc off imm) :=
  slotCount_basic rfl (by decide : (0xa6#8 : BitVec 8) ≠ 0x18#8)
theorem SlotCount.jlt32X (dst src : Reg) (off : Off) : SlotCount.Statement (.jlt32X dst src off) :=
  slotCount_basic rfl (by decide : (0xae#8 : BitVec 8) ≠ 0x18#8)
theorem SlotCount.jleK (dst : Reg) (anySrc : Nibble) (off : Off) (imm : Imm) : SlotCount.Statement (.jleK dst anySrc off imm) :=
  slotCount_basic rfl (by decide : (0xb5#8 : BitVec 8) ≠ 0x18#8)
theorem SlotCount.jleX (dst src : Reg) (off : Off) : SlotCount.Statement (.jleX dst src off) :=
  slotCount_basic rfl (by decide : (0xbd#8 : BitVec 8) ≠ 0x18#8)
theorem SlotCount.jle32K (dst : Reg) (anySrc : Nibble) (off : Off) (imm : Imm) : SlotCount.Statement (.jle32K dst anySrc off imm) :=
  slotCount_basic rfl (by decide : (0xb6#8 : BitVec 8) ≠ 0x18#8)
theorem SlotCount.jle32X (dst src : Reg) (off : Off) : SlotCount.Statement (.jle32X dst src off) :=
  slotCount_basic rfl (by decide : (0xbe#8 : BitVec 8) ≠ 0x18#8)
theorem SlotCount.jsltK (dst : Reg) (anySrc : Nibble) (off : Off) (imm : Imm) : SlotCount.Statement (.jsltK dst anySrc off imm) :=
  slotCount_basic rfl (by decide : (0xc5#8 : BitVec 8) ≠ 0x18#8)
theorem SlotCount.jsltX (dst src : Reg) (off : Off) : SlotCount.Statement (.jsltX dst src off) :=
  slotCount_basic rfl (by decide : (0xcd#8 : BitVec 8) ≠ 0x18#8)
theorem SlotCount.jslt32K (dst : Reg) (anySrc : Nibble) (off : Off) (imm : Imm) : SlotCount.Statement (.jslt32K dst anySrc off imm) :=
  slotCount_basic rfl (by decide : (0xc6#8 : BitVec 8) ≠ 0x18#8)
theorem SlotCount.jslt32X (dst src : Reg) (off : Off) : SlotCount.Statement (.jslt32X dst src off) :=
  slotCount_basic rfl (by decide : (0xce#8 : BitVec 8) ≠ 0x18#8)
theorem SlotCount.jsleK (dst : Reg) (anySrc : Nibble) (off : Off) (imm : Imm) : SlotCount.Statement (.jsleK dst anySrc off imm) :=
  slotCount_basic rfl (by decide : (0xd5#8 : BitVec 8) ≠ 0x18#8)
theorem SlotCount.jsleX (dst src : Reg) (off : Off) : SlotCount.Statement (.jsleX dst src off) :=
  slotCount_basic rfl (by decide : (0xdd#8 : BitVec 8) ≠ 0x18#8)
theorem SlotCount.jsle32K (dst : Reg) (anySrc : Nibble) (off : Off) (imm : Imm) : SlotCount.Statement (.jsle32K dst anySrc off imm) :=
  slotCount_basic rfl (by decide : (0xd6#8 : BitVec 8) ≠ 0x18#8)
theorem SlotCount.jsle32X (dst src : Reg) (off : Off) : SlotCount.Statement (.jsle32X dst src off) :=
  slotCount_basic rfl (by decide : (0xde#8 : BitVec 8) ≠ 0x18#8)
theorem SlotCount.callHelper (id : Imm) : SlotCount.Statement (.callHelper id) :=
  slotCount_basic rfl (by decide : (0x85#8 : BitVec 8) ≠ 0x18#8)
theorem SlotCount.callLocal (imm : Imm) : SlotCount.Statement (.callLocal imm) :=
  slotCount_basic rfl (by decide : (0x85#8 : BitVec 8) ≠ 0x18#8)
theorem SlotCount.callBtf (id : Imm) : SlotCount.Statement (.callBtf id) :=
  slotCount_basic rfl (by decide : (0x85#8 : BitVec 8) ≠ 0x18#8)
theorem SlotCount.exit : SlotCount.Statement (.exit) :=
  slotCount_basic rfl (by decide : (0x95#8 : BitVec 8) ≠ 0x18#8)
theorem SlotCount.ldxw (dst src : Reg) (off : Off) : SlotCount.Statement (.ldxw dst src off) :=
  slotCount_basic rfl (by decide : (0x61#8 : BitVec 8) ≠ 0x18#8)
theorem SlotCount.ldxh (dst src : Reg) (off : Off) : SlotCount.Statement (.ldxh dst src off) :=
  slotCount_basic rfl (by decide : (0x69#8 : BitVec 8) ≠ 0x18#8)
theorem SlotCount.ldxb (dst src : Reg) (off : Off) : SlotCount.Statement (.ldxb dst src off) :=
  slotCount_basic rfl (by decide : (0x71#8 : BitVec 8) ≠ 0x18#8)
theorem SlotCount.ldxdw (dst src : Reg) (off : Off) : SlotCount.Statement (.ldxdw dst src off) :=
  slotCount_basic rfl (by decide : (0x79#8 : BitVec 8) ≠ 0x18#8)
theorem SlotCount.stw (dst : Reg) (off : Off) (imm : Imm) : SlotCount.Statement (.stw dst off imm) :=
  slotCount_basic rfl (by decide : (0x62#8 : BitVec 8) ≠ 0x18#8)
theorem SlotCount.sth (dst : Reg) (off : Off) (imm : Imm) : SlotCount.Statement (.sth dst off imm) :=
  slotCount_basic rfl (by decide : (0x6a#8 : BitVec 8) ≠ 0x18#8)
theorem SlotCount.stb (dst : Reg) (off : Off) (imm : Imm) : SlotCount.Statement (.stb dst off imm) :=
  slotCount_basic rfl (by decide : (0x72#8 : BitVec 8) ≠ 0x18#8)
theorem SlotCount.stdw (dst : Reg) (off : Off) (imm : Imm) : SlotCount.Statement (.stdw dst off imm) :=
  slotCount_basic rfl (by decide : (0x7a#8 : BitVec 8) ≠ 0x18#8)
theorem SlotCount.stxw (dst src : Reg) (off : Off) : SlotCount.Statement (.stxw dst src off) :=
  slotCount_basic rfl (by decide : (0x63#8 : BitVec 8) ≠ 0x18#8)
theorem SlotCount.stxh (dst src : Reg) (off : Off) : SlotCount.Statement (.stxh dst src off) :=
  slotCount_basic rfl (by decide : (0x6b#8 : BitVec 8) ≠ 0x18#8)
theorem SlotCount.stxb (dst src : Reg) (off : Off) : SlotCount.Statement (.stxb dst src off) :=
  slotCount_basic rfl (by decide : (0x73#8 : BitVec 8) ≠ 0x18#8)
theorem SlotCount.stxdw (dst src : Reg) (off : Off) : SlotCount.Statement (.stxdw dst src off) :=
  slotCount_basic rfl (by decide : (0x7b#8 : BitVec 8) ≠ 0x18#8)
theorem SlotCount.ldxsw (dst src : Reg) (off : Off) : SlotCount.Statement (.ldxsw dst src off) :=
  slotCount_basic rfl (by decide : (0x81#8 : BitVec 8) ≠ 0x18#8)
theorem SlotCount.ldxsh (dst src : Reg) (off : Off) : SlotCount.Statement (.ldxsh dst src off) :=
  slotCount_basic rfl (by decide : (0x89#8 : BitVec 8) ≠ 0x18#8)
theorem SlotCount.ldxsb (dst src : Reg) (off : Off) : SlotCount.Statement (.ldxsb dst src off) :=
  slotCount_basic rfl (by decide : (0x91#8 : BitVec 8) ≠ 0x18#8)
theorem SlotCount.lddw (dst : Reg) (imm nextImm : Imm) : SlotCount.Statement (.lddw dst imm nextImm) :=
  slotCount_extended rfl rfl
theorem SlotCount.lddwSubtype1 (dst : Reg) (imm nextImm : Imm) : SlotCount.Statement (.lddwSubtype1 dst imm nextImm) :=
  slotCount_extended rfl rfl
theorem SlotCount.lddwSubtype2 (dst : Reg) (imm nextImm : Imm) : SlotCount.Statement (.lddwSubtype2 dst imm nextImm) :=
  slotCount_extended rfl rfl
theorem SlotCount.lddwSubtype3 (dst : Reg) (imm nextImm : Imm) : SlotCount.Statement (.lddwSubtype3 dst imm nextImm) :=
  slotCount_extended rfl rfl
theorem SlotCount.lddwSubtype4 (dst : Reg) (imm nextImm : Imm) : SlotCount.Statement (.lddwSubtype4 dst imm nextImm) :=
  slotCount_extended rfl rfl
theorem SlotCount.lddwSubtype5 (dst : Reg) (imm nextImm : Imm) : SlotCount.Statement (.lddwSubtype5 dst imm nextImm) :=
  slotCount_extended rfl rfl
theorem SlotCount.lddwSubtype6 (dst : Reg) (imm nextImm : Imm) : SlotCount.Statement (.lddwSubtype6 dst imm nextImm) :=
  slotCount_extended rfl rfl
theorem SlotCount.atomic32Add (dst src : Reg) (off : Off) : SlotCount.Statement (.atomic32Add dst src off) :=
  slotCount_basic rfl (by decide : (0xc3#8 : BitVec 8) ≠ 0x18#8)
theorem SlotCount.atomic32Or (dst src : Reg) (off : Off) : SlotCount.Statement (.atomic32Or dst src off) :=
  slotCount_basic rfl (by decide : (0xc3#8 : BitVec 8) ≠ 0x18#8)
theorem SlotCount.atomic32And (dst src : Reg) (off : Off) : SlotCount.Statement (.atomic32And dst src off) :=
  slotCount_basic rfl (by decide : (0xc3#8 : BitVec 8) ≠ 0x18#8)
theorem SlotCount.atomic32Xor (dst src : Reg) (off : Off) : SlotCount.Statement (.atomic32Xor dst src off) :=
  slotCount_basic rfl (by decide : (0xc3#8 : BitVec 8) ≠ 0x18#8)
theorem SlotCount.atomic32FetchAdd (dst src : Reg) (off : Off) : SlotCount.Statement (.atomic32FetchAdd dst src off) :=
  slotCount_basic rfl (by decide : (0xc3#8 : BitVec 8) ≠ 0x18#8)
theorem SlotCount.atomic32FetchOr (dst src : Reg) (off : Off) : SlotCount.Statement (.atomic32FetchOr dst src off) :=
  slotCount_basic rfl (by decide : (0xc3#8 : BitVec 8) ≠ 0x18#8)
theorem SlotCount.atomic32FetchAnd (dst src : Reg) (off : Off) : SlotCount.Statement (.atomic32FetchAnd dst src off) :=
  slotCount_basic rfl (by decide : (0xc3#8 : BitVec 8) ≠ 0x18#8)
theorem SlotCount.atomic32FetchXor (dst src : Reg) (off : Off) : SlotCount.Statement (.atomic32FetchXor dst src off) :=
  slotCount_basic rfl (by decide : (0xc3#8 : BitVec 8) ≠ 0x18#8)
theorem SlotCount.atomic32Xchg (dst src : Reg) (off : Off) : SlotCount.Statement (.atomic32Xchg dst src off) :=
  slotCount_basic rfl (by decide : (0xc3#8 : BitVec 8) ≠ 0x18#8)
theorem SlotCount.atomic32Cmpxchg (dst src : Reg) (off : Off) : SlotCount.Statement (.atomic32Cmpxchg dst src off) :=
  slotCount_basic rfl (by decide : (0xc3#8 : BitVec 8) ≠ 0x18#8)
theorem SlotCount.atomic64Add (dst src : Reg) (off : Off) : SlotCount.Statement (.atomic64Add dst src off) :=
  slotCount_basic rfl (by decide : (0xdb#8 : BitVec 8) ≠ 0x18#8)
theorem SlotCount.atomic64Or (dst src : Reg) (off : Off) : SlotCount.Statement (.atomic64Or dst src off) :=
  slotCount_basic rfl (by decide : (0xdb#8 : BitVec 8) ≠ 0x18#8)
theorem SlotCount.atomic64And (dst src : Reg) (off : Off) : SlotCount.Statement (.atomic64And dst src off) :=
  slotCount_basic rfl (by decide : (0xdb#8 : BitVec 8) ≠ 0x18#8)
theorem SlotCount.atomic64Xor (dst src : Reg) (off : Off) : SlotCount.Statement (.atomic64Xor dst src off) :=
  slotCount_basic rfl (by decide : (0xdb#8 : BitVec 8) ≠ 0x18#8)
theorem SlotCount.atomic64FetchAdd (dst src : Reg) (off : Off) : SlotCount.Statement (.atomic64FetchAdd dst src off) :=
  slotCount_basic rfl (by decide : (0xdb#8 : BitVec 8) ≠ 0x18#8)
theorem SlotCount.atomic64FetchOr (dst src : Reg) (off : Off) : SlotCount.Statement (.atomic64FetchOr dst src off) :=
  slotCount_basic rfl (by decide : (0xdb#8 : BitVec 8) ≠ 0x18#8)
theorem SlotCount.atomic64FetchAnd (dst src : Reg) (off : Off) : SlotCount.Statement (.atomic64FetchAnd dst src off) :=
  slotCount_basic rfl (by decide : (0xdb#8 : BitVec 8) ≠ 0x18#8)
theorem SlotCount.atomic64FetchXor (dst src : Reg) (off : Off) : SlotCount.Statement (.atomic64FetchXor dst src off) :=
  slotCount_basic rfl (by decide : (0xdb#8 : BitVec 8) ≠ 0x18#8)
theorem SlotCount.atomic64Xchg (dst src : Reg) (off : Off) : SlotCount.Statement (.atomic64Xchg dst src off) :=
  slotCount_basic rfl (by decide : (0xdb#8 : BitVec 8) ≠ 0x18#8)
theorem SlotCount.atomic64Cmpxchg (dst src : Reg) (off : Off) : SlotCount.Statement (.atomic64Cmpxchg dst src off) :=
  slotCount_basic rfl (by decide : (0xdb#8 : BitVec 8) ≠ 0x18#8)
theorem SlotCount.ldabsw (rest : BitVec 56) : SlotCount.Statement (.ldabsw rest) :=
  slotCount_basic rfl (by decide : (0x20#8 : BitVec 8) ≠ 0x18#8)
theorem SlotCount.ldabsh (rest : BitVec 56) : SlotCount.Statement (.ldabsh rest) :=
  slotCount_basic rfl (by decide : (0x28#8 : BitVec 8) ≠ 0x18#8)
theorem SlotCount.ldabsb (rest : BitVec 56) : SlotCount.Statement (.ldabsb rest) :=
  slotCount_basic rfl (by decide : (0x30#8 : BitVec 8) ≠ 0x18#8)
theorem SlotCount.ldindw (rest : BitVec 56) : SlotCount.Statement (.ldindw rest) :=
  slotCount_basic rfl (by decide : (0x40#8 : BitVec 8) ≠ 0x18#8)
theorem SlotCount.ldindh (rest : BitVec 56) : SlotCount.Statement (.ldindh rest) :=
  slotCount_basic rfl (by decide : (0x48#8 : BitVec 8) ≠ 0x18#8)
theorem SlotCount.ldindb (rest : BitVec 56) : SlotCount.Statement (.ldindb rest) :=
  slotCount_basic rfl (by decide : (0x50#8 : BitVec 8) ≠ 0x18#8)

end Sys2Proof.Laws
end

