-- ==== Sys2Proof/Tests/Slice0.lean ====
section
/-! SUPPORT. Tests: ill-formed terms, words written out from spec/opcode_table.json, one step on the vectors of
95_test_vectors.md and 96_supplement_vectors.md, and the witnesses of the statements' hypotheses. Every expected
value comes from the spec. -/

namespace Sys2Proof.Tests

open Sys2Proof.Machine

set_option maxRecDepth 100000

/-! ### Ill-formed terms -/

/-- R24, R84: arithmetic does not write R10. -/
theorem test_wellFormed_refuses_arith_r10 : (Instr.add64K .r10 1).wellFormed = false := by decide

/-- R24, R84: a load does not write R10. -/
theorem test_wellFormed_refuses_load_r10 : (Instr.ldxw .r10 .r1 0).wellFormed = false := by decide

/-- R24, R84: `LD IMM DW` does not write R10. -/
theorem test_wellFormed_refuses_lddw_r10 : (Instr.lddw .r10 0 0).wellFormed = false := by decide

/-- R240, log entry 26: an atomic operation with FETCH does not write R10. -/
theorem test_wellFormed_refuses_fetch_r10 : (Instr.atomic64FetchAdd .r1 .r10 0).wellFormed = false := by decide

/-- R84: R10 is allowed where it is only read. -/
theorem test_wellFormed_allows_r10_read :
    (Instr.jeqK .r10 0 0 0).wellFormed = true ∧ (Instr.stxdw .r10 .r10 0).wellFormed = true ∧
      (Instr.mov64X .r1 .r10).wellFormed = true := by decide

/-! ### Decoding: every row of the opcode table, its `match` with operands put in -/

/- arithmetic of class ALU64 and ALU, K-forms (R74). -/
theorem test_decode_arith_k_part1 :
    List.map (decodeTableWord 64)
        [
          0x89abcdef00000107, 0x89abcdef00000104, 0x89abcdef00000117, 0x89abcdef00000114, 0x89abcdef00000127,
          0x89abcdef00000124, 0x89abcdef00000137, 0x89abcdef00000134, 0x89abcdef00010137, 0x89abcdef00010134,
          0x89abcdef00000147, 0x89abcdef00000144, 0x89abcdef00000157, 0x89abcdef00000154, 0x89abcdef00000167,
          0x89abcdef00000164, 0x89abcdef00000177, 0x89abcdef00000174, 0x89abcdef00000197, 0x89abcdef00000194,
          0x89abcdef00010197, 0x89abcdef00010194, 0x89abcdef000001a7, 0x89abcdef000001a4] =
      List.map some
        [
          .add64K .r1 0x89abcdef, .add32K .r1 0x89abcdef, .sub64K .r1 0x89abcdef, .sub32K .r1 0x89abcdef,
          .mul64K .r1 0x89abcdef, .mul32K .r1 0x89abcdef, .div64K .r1 0x89abcdef, .div32K .r1 0x89abcdef,
          .sdiv64K .r1 0x89abcdef, .sdiv32K .r1 0x89abcdef, .or64K .r1 0x89abcdef, .or32K .r1 0x89abcdef,
          .and64K .r1 0x89abcdef, .and32K .r1 0x89abcdef, .lsh64K .r1 0x89abcdef, .lsh32K .r1 0x89abcdef,
          .rsh64K .r1 0x89abcdef, .rsh32K .r1 0x89abcdef, .mod64K .r1 0x89abcdef, .mod32K .r1 0x89abcdef,
          .smod64K .r1 0x89abcdef, .smod32K .r1 0x89abcdef, .xor64K .r1 0x89abcdef, .xor32K .r1 0x89abcdef] := by
  decide

theorem test_decode_arith_k_part2 :
    List.map (decodeTableWord 64)
        [
          0x89abcdef000001b7, 0x89abcdef000001b4, 0x89abcdef000001c7, 0x89abcdef000001c4, 0x89abcdef000801b7,
          0x89abcdef001001b7, 0x89abcdef002001b7, 0x89abcdef000801b4, 0x89abcdef001001b4, 0x89abcdef002001b4] =
      List.map some
        [
          .mov64K .r1 0x89abcdef, .mov32K .r1 0x89abcdef, .arsh64K .r1 0x89abcdef, .arsh32K .r1 0x89abcdef,
          .movsx64K8 .r1 0x89abcdef, .movsx64K16 .r1 0x89abcdef, .movsx64K32 .r1 0x89abcdef,
          .movsx32K8 .r1 0x89abcdef, .movsx32K16 .r1 0x89abcdef, .movsx32K32 .r1 0x89abcdef] := by
  decide

/- arithmetic of class ALU64 and ALU, X-forms (R74). -/
theorem test_decode_arith_x_part1 :
    List.map (decodeTableWord 64)
        [
          0x000000000000210f, 0x000000000000210c, 0x000000000000211f, 0x000000000000211c, 0x000000000000212f,
          0x000000000000212c, 0x000000000000213f, 0x000000000000213c, 0x000000000001213f, 0x000000000001213c,
          0x000000000000214f, 0x000000000000214c, 0x000000000000215f, 0x000000000000215c, 0x000000000000216f,
          0x000000000000216c, 0x000000000000217f, 0x000000000000217c, 0x000000000000219f, 0x000000000000219c,
          0x000000000001219f, 0x000000000001219c, 0x00000000000021af, 0x00000000000021ac] =
      List.map some
        [
          .add64X .r1 .r2, .add32X .r1 .r2, .sub64X .r1 .r2, .sub32X .r1 .r2, .mul64X .r1 .r2,
          .mul32X .r1 .r2, .div64X .r1 .r2, .div32X .r1 .r2, .sdiv64X .r1 .r2, .sdiv32X .r1 .r2,
          .or64X .r1 .r2, .or32X .r1 .r2, .and64X .r1 .r2, .and32X .r1 .r2, .lsh64X .r1 .r2, .lsh32X .r1 .r2,
          .rsh64X .r1 .r2, .rsh32X .r1 .r2, .mod64X .r1 .r2, .mod32X .r1 .r2, .smod64X .r1 .r2,
          .smod32X .r1 .r2, .xor64X .r1 .r2, .xor32X .r1 .r2] := by
  decide

theorem test_decode_arith_x_part2 :
    List.map (decodeTableWord 64)
        [
          0x00000000000021bf, 0x00000000000021bc, 0x00000000000021cf, 0x00000000000021cc, 0x00000000000821bf,
          0x00000000001021bf, 0x00000000002021bf, 0x00000000000821bc, 0x00000000001021bc, 0x00000000002021bc] =
      List.map some
        [
          .mov64X .r1 .r2, .mov32X .r1 .r2, .arsh64X .r1 .r2, .arsh32X .r1 .r2, .movsx64X8 .r1 .r2,
          .movsx64X16 .r1 .r2, .movsx64X32 .r1 .r2, .movsx32X8 .r1 .r2, .movsx32X16 .r1 .r2,
          .movsx32X32 .r1 .r2] := by
  decide

/- NEG and END (R74). -/
theorem test_decode_unary :
    List.map (decodeTableWord 64)
        [
          0x0000000000000187, 0x0000000000000184, 0x00000010000001d4, 0x00000020000001d4, 0x00000040000001d4,
          0x00000010000001dc, 0x00000020000001dc, 0x00000040000001dc, 0x00000010000001d7, 0x00000020000001d7,
          0x00000040000001d7] =
      List.map some
        [
          .neg64 .r1, .neg32 .r1, .tole16 .r1, .tole32 .r1, .tole64 .r1, .tobe16 .r1, .tobe32 .r1,
          .tobe64 .r1, .bswap16 .r1, .bswap32 .r1, .bswap64 .r1] := by
  decide

/- conditional jumps, K-forms: dst R10, the unread `src_reg` 13 (R75, R78). -/
theorem test_decode_jump_k :
    List.map (decodeTableWord 64)
        [
          0x89abcdef8123da15, 0x89abcdef8123da16, 0x89abcdef8123da25, 0x89abcdef8123da26, 0x89abcdef8123da35,
          0x89abcdef8123da36, 0x89abcdef8123da45, 0x89abcdef8123da46, 0x89abcdef8123da55, 0x89abcdef8123da56,
          0x89abcdef8123da65, 0x89abcdef8123da66, 0x89abcdef8123da75, 0x89abcdef8123da76, 0x89abcdef8123daa5,
          0x89abcdef8123daa6, 0x89abcdef8123dab5, 0x89abcdef8123dab6, 0x89abcdef8123dac5, 0x89abcdef8123dac6,
          0x89abcdef8123dad5, 0x89abcdef8123dad6] =
      List.map some
        [
          .jeqK .r10 0xd 0x8123 0x89abcdef, .jeq32K .r10 0xd 0x8123 0x89abcdef,
          .jgtK .r10 0xd 0x8123 0x89abcdef, .jgt32K .r10 0xd 0x8123 0x89abcdef,
          .jgeK .r10 0xd 0x8123 0x89abcdef, .jge32K .r10 0xd 0x8123 0x89abcdef,
          .jsetK .r10 0xd 0x8123 0x89abcdef, .jset32K .r10 0xd 0x8123 0x89abcdef,
          .jneK .r10 0xd 0x8123 0x89abcdef, .jne32K .r10 0xd 0x8123 0x89abcdef,
          .jsgtK .r10 0xd 0x8123 0x89abcdef, .jsgt32K .r10 0xd 0x8123 0x89abcdef,
          .jsgeK .r10 0xd 0x8123 0x89abcdef, .jsge32K .r10 0xd 0x8123 0x89abcdef,
          .jltK .r10 0xd 0x8123 0x89abcdef, .jlt32K .r10 0xd 0x8123 0x89abcdef,
          .jleK .r10 0xd 0x8123 0x89abcdef, .jle32K .r10 0xd 0x8123 0x89abcdef,
          .jsltK .r10 0xd 0x8123 0x89abcdef, .jslt32K .r10 0xd 0x8123 0x89abcdef,
          .jsleK .r10 0xd 0x8123 0x89abcdef, .jsle32K .r10 0xd 0x8123 0x89abcdef] := by
  decide

/- conditional jumps, X-forms (R75). -/
theorem test_decode_jump_x :
    List.map (decodeTableWord 64)
        [
          0x000000008123a11d, 0x000000008123a11e, 0x000000008123a12d, 0x000000008123a12e, 0x000000008123a13d,
          0x000000008123a13e, 0x000000008123a14d, 0x000000008123a14e, 0x000000008123a15d, 0x000000008123a15e,
          0x000000008123a16d, 0x000000008123a16e, 0x000000008123a17d, 0x000000008123a17e, 0x000000008123a1ad,
          0x000000008123a1ae, 0x000000008123a1bd, 0x000000008123a1be, 0x000000008123a1cd, 0x000000008123a1ce,
          0x000000008123a1dd, 0x000000008123a1de] =
      List.map some
        [
          .jeqX .r1 .r10 0x8123, .jeq32X .r1 .r10 0x8123, .jgtX .r1 .r10 0x8123, .jgt32X .r1 .r10 0x8123,
          .jgeX .r1 .r10 0x8123, .jge32X .r1 .r10 0x8123, .jsetX .r1 .r10 0x8123, .jset32X .r1 .r10 0x8123,
          .jneX .r1 .r10 0x8123, .jne32X .r1 .r10 0x8123, .jsgtX .r1 .r10 0x8123, .jsgt32X .r1 .r10 0x8123,
          .jsgeX .r1 .r10 0x8123, .jsge32X .r1 .r10 0x8123, .jltX .r1 .r10 0x8123, .jlt32X .r1 .r10 0x8123,
          .jleX .r1 .r10 0x8123, .jle32X .r1 .r10 0x8123, .jsltX .r1 .r10 0x8123, .jslt32X .r1 .r10 0x8123,
          .jsleX .r1 .r10 0x8123, .jsle32X .r1 .r10 0x8123] := by
  decide

/- JA, JA32, CALL, EXIT (R75, R76). -/
theorem test_decode_control :
    List.map (decodeTableWord 64)
        [
          0x0000000081230005, 0x89abcdef00000006, 0x89abcdef00000085, 0x89abcdef00001085, 0x89abcdef00002085,
          0x0000000000000095] =
      List.map some
        [
          .ja 0x8123, .ja32 0x89abcdef, .callHelper 0x89abcdef, .callLocal 0x89abcdef, .callBtf 0x89abcdef,
          .exit] := by
  decide

/- loads and stores (R224 to R230). -/
theorem test_decode_load_store :
    List.map (decodeTableWord 64)
        [
          0x000000008123a161, 0x000000008123a169, 0x000000008123a171, 0x000000008123a179, 0x89abcdef81230a62,
          0x89abcdef81230a6a, 0x89abcdef81230a72, 0x89abcdef81230a7a, 0x0000000081232a63, 0x0000000081232a6b,
          0x0000000081232a73, 0x0000000081232a7b, 0x000000008123a181, 0x000000008123a189, 0x000000008123a191] =
      List.map some
        [
          .ldxw .r1 .r10 0x8123, .ldxh .r1 .r10 0x8123, .ldxb .r1 .r10 0x8123, .ldxdw .r1 .r10 0x8123,
          .stw .r10 0x8123 0x89abcdef, .sth .r10 0x8123 0x89abcdef, .stb .r10 0x8123 0x89abcdef,
          .stdw .r10 0x8123 0x89abcdef, .stxw .r10 .r2 0x8123, .stxh .r10 .r2 0x8123, .stxb .r10 .r2 0x8123,
          .stxdw .r10 .r2 0x8123, .ldxsw .r1 .r10 0x8123, .ldxsh .r1 .r10 0x8123, .ldxsb .r1 .r10 0x8123] := by
  decide

/- atomic operations (R240). -/
theorem test_decode_atomic :
    List.map (decodeTableWord 64)
        [
          0x0000000081232ac3, 0x0000004081232ac3, 0x0000005081232ac3, 0x000000a081232ac3, 0x0000000181232ac3,
          0x0000004181232ac3, 0x0000005181232ac3, 0x000000a181232ac3, 0x000000e181232ac3, 0x000000f181232ac3,
          0x0000000081232adb, 0x0000004081232adb, 0x0000005081232adb, 0x000000a081232adb, 0x0000000181232adb,
          0x0000004181232adb, 0x0000005181232adb, 0x000000a181232adb, 0x000000e181232adb, 0x000000f181232adb] =
      List.map some
        [
          .atomic32Add .r10 .r2 0x8123, .atomic32Or .r10 .r2 0x8123, .atomic32And .r10 .r2 0x8123,
          .atomic32Xor .r10 .r2 0x8123, .atomic32FetchAdd .r10 .r2 0x8123, .atomic32FetchOr .r10 .r2 0x8123,
          .atomic32FetchAnd .r10 .r2 0x8123, .atomic32FetchXor .r10 .r2 0x8123,
          .atomic32Xchg .r10 .r2 0x8123, .atomic32Cmpxchg .r10 .r2 0x8123, .atomic64Add .r10 .r2 0x8123,
          .atomic64Or .r10 .r2 0x8123, .atomic64And .r10 .r2 0x8123, .atomic64Xor .r10 .r2 0x8123,
          .atomic64FetchAdd .r10 .r2 0x8123, .atomic64FetchOr .r10 .r2 0x8123,
          .atomic64FetchAnd .r10 .r2 0x8123, .atomic64FetchXor .r10 .r2 0x8123,
          .atomic64Xchg .r10 .r2 0x8123, .atomic64Cmpxchg .r10 .r2 0x8123] := by
  decide

/- `LD IMM DW`, 128 bits (R232 to R234). -/
theorem test_decode_lddw :
    List.map (decodeTableWord 128)
        [
          0x123456780000000089abcdef00000918, 0x123456780000000089abcdef00001918,
          0x123456780000000089abcdef00002918, 0x123456780000000089abcdef00003918,
          0x123456780000000089abcdef00004918, 0x123456780000000089abcdef00005918,
          0x123456780000000089abcdef00006918] =
      List.map some
        [
          .lddw .r9 0x89abcdef 0x12345678, .lddwSubtype1 .r9 0x89abcdef 0x12345678,
          .lddwSubtype2 .r9 0x89abcdef 0x12345678, .lddwSubtype3 .r9 0x89abcdef 0x12345678,
          .lddwSubtype4 .r9 0x89abcdef 0x12345678, .lddwSubtype5 .r9 0x89abcdef 0x12345678,
          .lddwSubtype6 .r9 0x89abcdef 0x12345678] := by
  decide

/- legacy packet loads (R235). -/
theorem test_decode_legacy :
    List.map (decodeTableWord 64)
        [
          0xfedcba9876543220, 0xfedcba9876543228, 0xfedcba9876543230, 0xfedcba9876543240, 0xfedcba9876543248,
          0xfedcba9876543250] =
      List.map some
        [
          .ldabsw 0xfedcba98765432, .ldabsh 0xfedcba98765432, .ldabsb 0xfedcba98765432,
          .ldindw 0xfedcba98765432, .ldindh 0xfedcba98765432, .ldindb 0xfedcba98765432] := by
  decide

/-! ### One step, on the vectors of the spec -/

/-- The state of a single-instruction vector: `pc` 10 of a 32-slot program, these registers written. -/
def vector (e : Endian) (regs : List (Reg × Word)) (x : Slot) : State :=
  { State.reset with
    params := { Params.reset with hostEndian := e }
    prog := List.replicate 10 zeroSlot ++ x :: List.replicate 21 zeroSlot
    pc := 10
    regs := entryRegs regs }

/-- R1 after one step that goes on to slot 11 and changes nothing else. -/
def r1Of (s : State) : Option Nat :=
  match step s with
  | .next t =>
    match t.regs.r1 with
    | .written v => if t = { s with pc := 11, regs := { s.regs with r1 := .written v } } then some v.toNat else none
    | .unwritten => none
  | _ => none

/-- R1 after the instruction of a vector. -/
def r1After (e : Endian) (regs : List (Reg × Word)) (x : Slot) : Option Nat := r1Of (vector e regs x)

/-- `pc` after a jump that changes nothing else. -/
def pcAfter (regs : List (Reg × Word)) (x : Slot) : Option Nat :=
  match step (vector .little regs x) with
  | .next t => if t = { vector .little regs x with pc := t.pc } then some t.pc else none
  | _ => none

/-- The fault that a step of this state records, changing nothing else. -/
def faultOf (s : State) : Option FaultRecord :=
  match step s with
  | .next t => if t = { s with fault := t.fault } then t.fault else none
  | _ => none

/-- The fault of a vector. -/
def faultAfter (regs : List (Reg × Word)) (x : Slot) : Option FaultRecord := faultOf (vector .little regs x)

/-- The state of the supplement's vectors (96_supplement_vectors.md part 2.9). -/
def memVector (e : Endian) (x : Slot) : State :=
  { vector e [(.r2, 0x1ff8), (.r3, 0xa1a2a3a4a5a6a7a8), (.r10, 0x2000)] x with
    mem :=
      [(0x1ff8, 0x88), (0x1ff9, 0x77), (0x1ffa, 0x66), (0x1ffb, 0x55), (0x1ffc, 0x44), (0x1ffd, 0x33),
        (0x1ffe, 0x22), (0x1fff, 0x11)] }

/-- R1 after a load of those vectors. -/
def loadAfter (e : Endian) (x : Slot) : Option Nat := r1Of (memVector e x)

/-- The bytes from 0x1ff8 after one step that goes on to slot 11 and changes only memory. -/
def bytesOfStep (s : State) : List Byte :=
  match step s with
  | .next t => if t = { s with pc := 11, mem := t.mem } then t.mem.map (fun c => c.2) else []
  | _ => []

/-- The bytes after a store of those vectors. -/
def bytesAfter (e : Endian) (x : Slot) : List Byte := bytesOfStep (memVector e x)

/-- A state with these registers and this program, at slot 0, and eight bytes of memory from 0x1ff8. -/
def demo (regs : List (Reg × Word)) (prog : List Slot) : State :=
  { State.reset with
    prog := prog
    regs := entryRegs regs
    mem :=
      [(0x1ff8, 0x88), (0x1ff9, 0x77), (0x1ffa, 0x66), (0x1ffb, 0x55), (0x1ffc, 0x44), (0x1ffd, 0x33),
        (0x1ffe, 0x22), (0x1fff, 0x11)] }

/-- The next state, the state itself where there is none. -/
def nextOf (s : State) (o : Out) : State :=
  match o with
  | .next t => t
  | _ => s

/-- The outcome is this next state. -/
def goes (o : Out) (t : State) : Bool :=
  match o with
  | .next u => decide (u = t)
  | _ => false

/-- The outcome is this fault of the model. -/
def stops (o : Out) (f : Fault) : Bool :=
  match o with
  | .fault g => decide (g = f)
  | _ => false

/-- The outcome is this refusal. -/
def refuses (o : Out) (r : Refusal) : Bool :=
  match o with
  | .refused q => decide (q = r)
  | _ => false

/-- What a decoding answers. -/
def decodesTo (o : Except DecodeError (Instr × List Slot)) : Option (Instr × List Slot) :=
  match o with
  | .ok x => some x
  | .error _ => none

/- 95_test_vectors.md part 2.8, X1 to X5: the run-time faults. -/
theorem test_runtime_faults :
    faultAfter [(.r1, 5)] ⟨0x0f, 0x21, 0, 0, 0, 0, 0, 0⟩ = some (.uninitRegister .r2 10) ∧
      faultAfter [] ⟨0x95, 0, 0, 0, 0, 0, 0, 0⟩ = some (.uninitRegister .r0 10) ∧
      faultAfter [] ⟨0x07, 0x01, 0, 0, 0x01, 0, 0, 0⟩ = some (.uninitRegister .r1 10) ∧
      faultAfter [] ⟨0x05, 0, 0x15, 0, 0, 0, 0, 0⟩ = some (.badJumpTarget 10 32) ∧
      faultAfter [] ⟨0x05, 0, 0xf4, 0xff, 0, 0, 0, 0⟩ = some (.badJumpTarget 10 (-1)) := by decide

/- 96_supplement_vectors.md, S10 and S11. -/
theorem test_memory_faults :
    faultOf (memVector .little ⟨0x61, 0x21, 0x02, 0, 0, 0, 0, 0⟩) = some (.memoryFault 0x1ffa 4 .misaligned) ∧
      faultOf (memVector .little ⟨0x71, 0xa1, 0, 0, 0, 0, 0, 0⟩) = some (.memoryFault 0x2000 1 .region) := by decide

/- 95_test_vectors.md part 2.8, X7: falling off the end keeps what was written. -/
theorem test_falling_off_the_end :
    goes (step (demo [] [⟨0xb7, 0, 0, 0, 0, 0, 0, 0⟩]))
      { demo [(.r0, 0)] [⟨0xb7, 0, 0, 0, 0, 0, 0, 0⟩] with fault := some (.badJumpTarget 0 1) } = true := by decide

/- 95_test_vectors.md part 1, S1: a jump into the middle of a 128-bit instruction. -/
theorem test_jump_into_second_half :
    faultOf (demo [] [⟨0x05, 0, 0x01, 0, 0, 0, 0, 0⟩, ⟨0x18, 0, 0, 0, 0x88, 0x77, 0x66, 0x55⟩,
      ⟨0, 0, 0, 0, 0x44, 0x33, 0x22, 0x11⟩, ⟨0x95, 0, 0, 0, 0, 0, 0, 0⟩]) = some (.badJumpTarget 0 2) := by decide

/-- The two slots of S19. -/
def lddwSlots : List Slot := [⟨0x18, 0x01, 0, 0, 0x88, 0x77, 0x66, 0x55⟩, ⟨0, 0, 0, 0, 0x44, 0x33, 0x22, 0x11⟩]

/- 96_supplement_vectors.md, S19: the 128-bit load, and its bytes on a big-endian host. -/
theorem test_lddw :
    goes (step (demo [] (lddwSlots ++ [zeroSlot])))
        { demo [(.r1, 0x1122334455667788)] (lddwSlots ++ [zeroSlot]) with pc := 2 } = true ∧
      decodesTo (decode { Params.reset with hostEndian := .big }
          [⟨0x18, 0x10, 0, 0, 0x55, 0x66, 0x77, 0x88⟩, ⟨0, 0, 0, 0, 0x11, 0x22, 0x33, 0x44⟩]) =
        some (.lddw .r1 0x55667788 0x11223344, []) := by decide

/-- The bytes from 0x1ff8 and the register R3 after an atomic operation on the supplement's vectors. -/
def atomicAfter (i : Instr) (r0 : Word) : List Byte × RegVal × RegVal :=
  let s := nextOf State.reset
    (exec i (demo [(.r0, r0), (.r2, 0x1ff8), (.r3, 0xa1a2a3a4a5a6a7a8)] [zeroSlot, zeroSlot]))
  (s.mem.map (fun c => c.2), s.regs.get .r0, s.regs.get .r3)

/- R240, by hand on the bytes 88 77 66 55 44 33 22 11 (little-endian) and R3 = 0xa1a2a3a4a5a6a7a8. -/
theorem test_atomic :
    atomicAfter (.atomic64Xor .r2 .r3 0) 1 =
        ([0x20, 0xd0, 0xc0, 0xf0, 0xe0, 0x90, 0x80, 0xb0], .written 1, .written 0xa1a2a3a4a5a6a7a8) ∧
      atomicAfter (.atomic32FetchAdd .r2 .r3 0) 1 =
        ([0x30, 0x1f, 0x0d, 0xfb, 0x44, 0x33, 0x22, 0x11], .written 1, .written 0x55667788) ∧
      atomicAfter (.atomic32Xchg .r2 .r3 0) 1 =
        ([0xa8, 0xa7, 0xa6, 0xa5, 0x44, 0x33, 0x22, 0x11], .written 1, .written 0x55667788) := by decide

/- R240, CMPXCHG at width 4: equal (the upper half of R0 is not compared), and different. -/
theorem test_cmpxchg :
    atomicAfter (.atomic32Cmpxchg .r2 .r3 0) 0xffffffff55667788 =
        ([0xa8, 0xa7, 0xa6, 0xa5, 0x44, 0x33, 0x22, 0x11], .written 0x55667788, .written 0xa1a2a3a4a5a6a7a8) ∧
      atomicAfter (.atomic32Cmpxchg .r2 .r3 0) 0x55667789 =
        ([0x88, 0x77, 0x66, 0x55, 0x44, 0x33, 0x22, 0x11], .written 0x55667788,
          .written 0xa1a2a3a4a5a6a7a8) := by decide

/-- The frame that program P2 of 95_test_vectors.md pushes. -/
def frameP2 : Frame where
  ret := 4
  r6 := .written 100
  r7 := .unwritten
  r8 := .unwritten
  r9 := .unwritten
  r10 := .written 0x2000

/- 95_test_vectors.md, program P2, slot 3: the frame of a CALL local, and what becomes unwritten. -/
theorem test_call_local :
    goes
      (exec (.callLocal 3)
        { vector .little [(.r0, 1), (.r1, 7), (.r2, 9), (.r6, 100), (.r10, 0x2000)] zeroSlot with pc := 3 })
      { vector .little [(.r1, 7), (.r2, 9), (.r10, 0x1e00)] zeroSlot with pc := 7, stack := [frameP2] } = true := by
  decide

/- 95_test_vectors.md, program P2, slot 10: EXIT restores R6 to R10 and drops R1 to R5. -/
theorem test_exit_to_caller :
    goes
      (exec .exit { vector .little [(.r0, 90), (.r1, 7), (.r6, 5), (.r10, 0x1e00)] zeroSlot with stack := [frameP2] })
      { vector .little [(.r0, 90), (.r6, 100), (.r10, 0x2000)] zeroSlot with pc := 4 } = true := by decide

/-- A helper of the platform. Of 2 and 3 it makes 5 where the byte at 0x1ff8 is 0x88, and writes a byte inside the region
and one outside; it makes 6 where that byte is 0. Of 7 and 7 it makes 1 or 2. It faults on 9 and 9, and has no result on
8 and 8. -/
def demoHelper : Helper where
  id := 7
  reads := [.r1, .r2]
  cases :=
    [{ args := [2, 3], mem := [(0x1ff8, 0x88)], outcome := .returns 5 [(0x1ff8, 0xaa), (0x3000, 0xbb)] },
      { args := [2, 3], mem := [(0x1ff8, 0)], outcome := .returns 6 [] },
      { args := [7, 7], mem := [], outcome := .returns 1 [] }, { args := [7, 7], mem := [], outcome := .returns 2 [] },
      { args := [9, 9], mem := [], outcome := .faults 4 }, { args := [8, 8], mem := [], outcome := .stuck }]

/-- A state in front of a call of that helper, known under both kinds of ID. -/
def calling (a b : Word) : State :=
  { demo [(.r1, a), (.r2, b), (.r6, 6), (.r10, 0x2000)] [zeroSlot, zeroSlot] with
    params := { Params.reset with helpers := [demoHelper], btfHelpers := [demoHelper] } }

/-- What is left of `calling 2 3`. -/
def called : State :=
  { calling 2 3 with
    pc := 1
    regs := entryRegs [(.r0, 5), (.r6, 6), (.r10, 0x2000)]
    mem := Memory.store (calling 2 3).mem 0x1ff8 0xaa
    draws := 1 }

/-- `calling 2 3` with another byte at 0x1ff8. -/
def callingOther : State := { calling 2 3 with mem := Memory.store (calling 2 3).mem 0x1ff8 0 }

/- R201, R211: a helper's result, its writes to admitted addresses alone, R1 to R5 dropped. -/
theorem test_helper_call :
    goes (exec (.callHelper 7) (calling 2 3)) called = true ∧ goes (exec (.callBtf 7) (calling 2 3)) called = true := by
  decide

/- R201, R208: a helper's result depends on memory, and its relation may allow several. -/
theorem test_helper_relation :
    (nextOf callingOther (exec (.callHelper 7) callingOther)).regs.get .r0 = .written 6 ∧
      allowedOutcomes (calling 7 7) demoHelper [7, 7] = [.returns 1 [], .returns 2 []] := by decide

/- R201, R260: a helper's own fault, an unknown ID, no result. -/
theorem test_helper_faults :
    goes (exec (.callHelper 7) (calling 9 9)) ((calling 9 9).faulted (.helperFault 0 7 4)) = true ∧
      goes (exec (.callBtf 8) (calling 9 9)) ((calling 9 9).faulted (.unknownHelper 0 8)) = true ∧
      stops (exec (.callHelper 7) (calling 8 8)) .helperStuck = true := by decide

/-- EXIT. -/
def exitSlot : Slot := ⟨0x95, 0, 0, 0, 0, 0, 0, 0⟩

/- R205, R206: EXIT with an empty call stack ends the run; no step follows. -/
theorem test_exit_ends_run :
    goes (step (demo [(.r0, 55)] [exitSlot])) { demo [(.r0, 55)] [exitSlot] with result := some 55 } = true ∧
      stops (step { demo [(.r0, 55)] [exitSlot] with result := some 55 }) .runEnded = true := by decide

/- R86, R223, R235, R36: launching. The first is X9 of 95_test_vectors.md. -/
theorem test_launch :
    refuses (State.launch { Params.reset with ldstProfile := .refuse } [⟨0x61, 0, 0, 0, 0, 0, 0, 0⟩] [] [])
        .loadStoreClass = true ∧
      refuses (State.launch Params.reset [⟨0xe7, 0, 0, 0, 0, 0, 0, 0⟩] [] []) .illFormedProgram = true ∧
      refuses (State.launch Params.reset [⟨0x20, 0, 0, 0, 0, 0, 0, 0⟩] [] []) .legacyPacketLoad = true ∧
      goes (State.launch Params.reset [exitSlot] [(.r1, 0x1000), (.r10, 0x2000)] [])
        { State.reset with prog := [exitSlot] } = true := by decide

/- R294: an instruction placed at reset is the one the first step runs. -/
theorem test_first_step_from_reset :
    goes (step (State.reset.withFetchWord 64 0xffffffff000000b7))
      { (State.reset.withFetchWord 64 0xffffffff000000b7) with
        pc := 1
        regs := { Regs.entry with r0 := .written 0xffffffffffffffff } } = true := by decide

/- 95_test_vectors.md part 2.1, vectors A1 to A16. -/
theorem test_add_sub_mul_neg :
      r1After .little [(.r1, 0xffffffffffffffff), (.r2, 0x1)]
        ⟨0x0f, 0x21, 0, 0, 0, 0, 0, 0⟩ = some 0x0 ∧
      r1After .little [(.r1, 0x1ffffffff), (.r2, 0x1)]
        ⟨0x0c, 0x21, 0, 0, 0, 0, 0, 0⟩ = some 0x0 ∧
      r1After .little [(.r1, 0x5)]
        ⟨0x07, 0x01, 0, 0, 0xff, 0xff, 0xff, 0xff⟩ = some 0x4 ∧
      r1After .little [(.r1, 0xdeadbeef00000001)]
        ⟨0x04, 0x01, 0, 0, 0xff, 0xff, 0xff, 0x7f⟩ = some 0x80000000 ∧
      r1After .little [(.r1, 0x0), (.r2, 0x1)]
        ⟨0x1f, 0x21, 0, 0, 0, 0, 0, 0⟩ = some 0xffffffffffffffff ∧
      r1After .little [(.r1, 0xabcdef0100000000)]
        ⟨0x14, 0x01, 0, 0, 0x01, 0, 0, 0⟩ = some 0xffffffff ∧
      r1After .little [(.r1, 0xffffffffffffffff), (.r2, 0xffffffffffffffff)]
        ⟨0x2f, 0x21, 0, 0, 0, 0, 0, 0⟩ = some 0x1 ∧
      r1After .little [(.r1, 0x100000000), (.r2, 0x100000000)]
        ⟨0x2f, 0x21, 0, 0, 0, 0, 0, 0⟩ = some 0x0 ∧
      r1After .little [(.r1, 0x10000), (.r2, 0x10000)]
        ⟨0x2c, 0x21, 0, 0, 0, 0, 0, 0⟩ = some 0x0 ∧
      r1After .little [(.r1, 0xffffffff)]
        ⟨0x24, 0x01, 0, 0, 0xff, 0xff, 0xff, 0xff⟩ = some 0x1 ∧
      r1After .little [(.r1, 0x1)]
        ⟨0x87, 0x01, 0, 0, 0, 0, 0, 0⟩ = some 0xffffffffffffffff ∧
      r1After .little [(.r1, 0x0)]
        ⟨0x87, 0x01, 0, 0, 0, 0, 0, 0⟩ = some 0x0 ∧
      r1After .little [(.r1, 0x8000000000000000)]
        ⟨0x87, 0x01, 0, 0, 0, 0, 0, 0⟩ = some 0x8000000000000000 ∧
      r1After .little [(.r1, 0xffffffff00000001)]
        ⟨0x84, 0x01, 0, 0, 0, 0, 0, 0⟩ = some 0xffffffff ∧
      r1After .little [(.r1, 0x80000000)]
        ⟨0x84, 0x01, 0, 0, 0, 0, 0, 0⟩ = some 0x80000000 ∧
      r1After .little [(.r1, 0x4000000000000001)]
        ⟨0x0f, 0x11, 0, 0, 0, 0, 0, 0⟩ = some 0x8000000000000002 := by decide

/- 95_test_vectors.md part 2.2, vectors D1 to D16. -/
theorem test_div_sdiv_part1 :
      r1After .little [(.r1, 0xffffffffffffffff), (.r2, 0x2)]
        ⟨0x3f, 0x21, 0, 0, 0, 0, 0, 0⟩ = some 0x7fffffffffffffff ∧
      r1After .little [(.r1, 0x64), (.r2, 0x7)]
        ⟨0x3f, 0x21, 0, 0, 0, 0, 0, 0⟩ = some 0xe ∧
      r1After .little [(.r1, 0xdeadbeefcafef00d), (.r2, 0x0)]
        ⟨0x3f, 0x21, 0, 0, 0, 0, 0, 0⟩ = some 0x0 ∧
      r1After .little [(.r1, 0xffffffffffffffff)]
        ⟨0x37, 0x01, 0, 0, 0xff, 0xff, 0xff, 0xff⟩ = some 0x1 ∧
      r1After .little [(.r1, 0xfffffffffffffffe)]
        ⟨0x37, 0x01, 0, 0, 0xff, 0xff, 0xff, 0xff⟩ = some 0x0 ∧
      r1After .little [(.r1, 0x4d)]
        ⟨0x37, 0x01, 0, 0, 0, 0, 0, 0⟩ = some 0x0 ∧
      r1After .little [(.r1, 0xfffffffffffffff6), (.r2, 0x3)]
        ⟨0x3c, 0x21, 0, 0, 0, 0, 0, 0⟩ = some 0x55555552 ∧
      r1After .little [(.r1, 0xffffffff)]
        ⟨0x34, 0x01, 0, 0, 0xff, 0xff, 0xff, 0xff⟩ = some 0x1 ∧
      r1After .little [(.r1, 0xdeadbeefcafef00d), (.r2, 0xffffffff00000000)]
        ⟨0x3c, 0x21, 0, 0, 0, 0, 0, 0⟩ = some 0x0 ∧
      r1After .little [(.r1, 0xfffffffffffffff9), (.r2, 0x2)]
        ⟨0x3f, 0x21, 0x01, 0, 0, 0, 0, 0⟩ = some 0xfffffffffffffffd ∧
      r1After .little [(.r1, 0x7), (.r2, 0xfffffffffffffffe)]
        ⟨0x3f, 0x21, 0x01, 0, 0, 0, 0, 0⟩ = some 0xfffffffffffffffd ∧
      r1After .little [(.r1, 0xfffffffffffffff9)]
        ⟨0x37, 0x01, 0x01, 0, 0xff, 0xff, 0xff, 0xff⟩ = some 0x7 ∧
      r1After .little [(.r1, 0xfffffffffffffff9), (.r2, 0xfffffffffffffffe)]
        ⟨0x3f, 0x21, 0x01, 0, 0, 0, 0, 0⟩ = some 0x3 ∧
      r1After .little [(.r1, 0x8000000000000000), (.r2, 0xffffffffffffffff)]
        ⟨0x3f, 0x21, 0x01, 0, 0, 0, 0, 0⟩ = some 0x8000000000000000 ∧
      r1After .little [(.r1, 0xfffffffffffffff9), (.r2, 0x0)]
        ⟨0x3f, 0x21, 0x01, 0, 0, 0, 0, 0⟩ = some 0x0 ∧
      r1After .little [(.r1, 0xfffffff9), (.r2, 0x2)]
        ⟨0x3c, 0x21, 0x01, 0, 0, 0, 0, 0⟩ = some 0xfffffffd := by decide

/- 95_test_vectors.md part 2.2, vectors D17 to D19. -/
theorem test_div_sdiv_part2 :
      r1After .little [(.r1, 0x80000000)]
        ⟨0x34, 0x01, 0x01, 0, 0xff, 0xff, 0xff, 0xff⟩ = some 0x80000000 ∧
      r1After .little [(.r1, 0xffffffff00000009)]
        ⟨0x34, 0x01, 0x01, 0, 0x02, 0, 0, 0⟩ = some 0x4 ∧
      r1After .little [(.r1, 0x123456789), (.r2, 0x0)]
        ⟨0x3c, 0x21, 0x01, 0, 0, 0, 0, 0⟩ = some 0x0 := by decide

/- 95_test_vectors.md part 2.3, vectors M1 to M14. -/
theorem test_mod_smod :
      r1After .little [(.r1, 0xffffffffffffffff), (.r2, 0xa)]
        ⟨0x9f, 0x21, 0, 0, 0, 0, 0, 0⟩ = some 0x5 ∧
      r1After .little [(.r1, 0xdeadbeefcafef00d), (.r2, 0x0)]
        ⟨0x9f, 0x21, 0, 0, 0, 0, 0, 0⟩ = some 0xdeadbeefcafef00d ∧
      r1After .little [(.r1, 0xfffffffffffffffe)]
        ⟨0x97, 0x01, 0, 0, 0xff, 0xff, 0xff, 0xff⟩ = some 0xfffffffffffffffe ∧
      r1After .little [(.r1, 0xfffffffffffffff6), (.r2, 0x7)]
        ⟨0x9c, 0x21, 0, 0, 0, 0, 0, 0⟩ = some 0x1 ∧
      r1After .little [(.r1, 0xdeadbeefcafef00d), (.r2, 0x0)]
        ⟨0x9c, 0x21, 0, 0, 0, 0, 0, 0⟩ = some 0xcafef00d ∧
      r1After .little [(.r1, 0xdeadbeefcafef00d)]
        ⟨0x94, 0x01, 0, 0, 0, 0, 0, 0⟩ = some 0xcafef00d ∧
      r1After .little [(.r1, 0xfffffffffffffff3), (.r2, 0x3)]
        ⟨0x9f, 0x21, 0x01, 0, 0, 0, 0, 0⟩ = some 0xffffffffffffffff ∧
      r1After .little [(.r1, 0xd), (.r2, 0xfffffffffffffffd)]
        ⟨0x9f, 0x21, 0x01, 0, 0, 0, 0, 0⟩ = some 0x1 ∧
      r1After .little [(.r1, 0xfffffffffffffff3)]
        ⟨0x97, 0x01, 0x01, 0, 0xfd, 0xff, 0xff, 0xff⟩ = some 0xffffffffffffffff ∧
      r1After .little [(.r1, 0xfffffffffffffff3), (.r2, 0x0)]
        ⟨0x9f, 0x21, 0x01, 0, 0, 0, 0, 0⟩ = some 0xfffffffffffffff3 ∧
      r1After .little [(.r1, 0x8000000000000000), (.r2, 0xffffffffffffffff)]
        ⟨0x9f, 0x21, 0x01, 0, 0, 0, 0, 0⟩ = some 0x0 ∧
      r1After .little [(.r1, 0xfffffff3), (.r2, 0x3)]
        ⟨0x9c, 0x21, 0x01, 0, 0, 0, 0, 0⟩ = some 0xffffffff ∧
      r1After .little [(.r1, 0xfffffffffffffff3), (.r2, 0x0)]
        ⟨0x9c, 0x21, 0x01, 0, 0, 0, 0, 0⟩ = some 0xfffffff3 ∧
      r1After .little [(.r1, 0x80000000)]
        ⟨0x94, 0x01, 0x01, 0, 0xff, 0xff, 0xff, 0xff⟩ = some 0x0 := by decide

/- 95_test_vectors.md part 2.4, vectors B1 to B16. -/
theorem test_bits_shifts_moves_part1 :
      r1After .little [(.r1, 0xf0f0000000000000), (.r2, 0xf0f)]
        ⟨0x4f, 0x21, 0, 0, 0, 0, 0, 0⟩ = some 0xf0f0000000000f0f ∧
      r1After .little [(.r1, 0xffffffff00000001)]
        ⟨0x44, 0x01, 0, 0, 0x02, 0, 0, 0⟩ = some 0x3 ∧
      r1After .little [(.r1, 0xffffffffffffffff)]
        ⟨0x57, 0x01, 0, 0, 0, 0, 0, 0x80⟩ = some 0xffffffff80000000 ∧
      r1After .little [(.r1, 0xffffffffffffffff)]
        ⟨0x54, 0x01, 0, 0, 0, 0, 0, 0x80⟩ = some 0x80000000 ∧
      r1After .little [(.r1, 0xffffffffffffffff)]
        ⟨0xa7, 0x01, 0, 0, 0xff, 0xff, 0xff, 0xff⟩ = some 0x0 ∧
      r1After .little [(.r1, 0xffffffffffffffff)]
        ⟨0xa4, 0x01, 0, 0, 0xff, 0xff, 0, 0⟩ = some 0xffff0000 ∧
      r1After .little [(.r1, 0x123456789abcdef0)]
        ⟨0xaf, 0x11, 0, 0, 0, 0, 0, 0⟩ = some 0x0 ∧
      r1After .little [(.r1, 0x8000000000000001)]
        ⟨0x67, 0x01, 0, 0, 0x01, 0, 0, 0⟩ = some 0x2 ∧
      r1After .little [(.r1, 0x1), (.r2, 0x40)]
        ⟨0x6f, 0x21, 0, 0, 0, 0, 0, 0⟩ = some 0x1 ∧
      r1After .little [(.r1, 0x1), (.r2, 0x7f)]
        ⟨0x6f, 0x21, 0, 0, 0, 0, 0, 0⟩ = some 0x8000000000000000 ∧
      r1After .little [(.r1, 0x1)]
        ⟨0x67, 0x01, 0, 0, 0xff, 0xff, 0xff, 0xff⟩ = some 0x8000000000000000 ∧
      r1After .little [(.r1, 0x1), (.r2, 0x20)]
        ⟨0x6c, 0x21, 0, 0, 0, 0, 0, 0⟩ = some 0x1 ∧
      r1After .little [(.r1, 0xffffffff00000001)]
        ⟨0x64, 0x01, 0, 0, 0x1f, 0, 0, 0⟩ = some 0x80000000 ∧
      r1After .little [(.r1, 0x3), (.r2, 0x21)]
        ⟨0x6c, 0x21, 0, 0, 0, 0, 0, 0⟩ = some 0x6 ∧
      r1After .little [(.r1, 0x8000000000000000)]
        ⟨0x77, 0x01, 0, 0, 0x01, 0, 0, 0⟩ = some 0x4000000000000000 ∧
      r1After .little [(.r1, 0x8000000000000000), (.r2, 0x40)]
        ⟨0x7f, 0x21, 0, 0, 0, 0, 0, 0⟩ = some 0x8000000000000000 := by decide

/- 95_test_vectors.md part 2.4, vectors B17 to B32. -/
theorem test_bits_shifts_moves_part2 :
      r1After .little [(.r1, 0xffffffff80000000)]
        ⟨0x74, 0x01, 0, 0, 0x01, 0, 0, 0⟩ = some 0x40000000 ∧
      r1After .little [(.r1, 0x80000000), (.r2, 0x20)]
        ⟨0x7c, 0x21, 0, 0, 0, 0, 0, 0⟩ = some 0x80000000 ∧
      r1After .little [(.r1, 0x8000000000000000)]
        ⟨0xc7, 0x01, 0, 0, 0x04, 0, 0, 0⟩ = some 0xf800000000000000 ∧
      r1After .little [(.r1, 0x8000000000000000)]
        ⟨0xc7, 0x01, 0, 0, 0x3f, 0, 0, 0⟩ = some 0xffffffffffffffff ∧
      r1After .little [(.r1, 0x8000000000000000), (.r2, 0x40)]
        ⟨0xcf, 0x21, 0, 0, 0, 0, 0, 0⟩ = some 0x8000000000000000 ∧
      r1After .little [(.r1, 0x4000000000000000)]
        ⟨0xc7, 0x01, 0, 0, 0x3e, 0, 0, 0⟩ = some 0x1 ∧
      r1After .little [(.r1, 0x80000000)]
        ⟨0xc4, 0x01, 0, 0, 0x04, 0, 0, 0⟩ = some 0xf8000000 ∧
      r1After .little [(.r1, 0xffffffff80000000)]
        ⟨0xc4, 0x01, 0, 0, 0x1f, 0, 0, 0⟩ = some 0xffffffff ∧
      r1After .little [(.r1, 0xffffffff7fffffff)]
        ⟨0xc4, 0x01, 0, 0, 0x04, 0, 0, 0⟩ = some 0x7ffffff ∧
      r1After .little []
        ⟨0xb7, 0x01, 0, 0, 0xff, 0xff, 0xff, 0xff⟩ = some 0xffffffffffffffff ∧
      r1After .little []
        ⟨0xb7, 0x01, 0, 0, 0xff, 0xff, 0xff, 0x7f⟩ = some 0x7fffffff ∧
      r1After .little []
        ⟨0xb4, 0x01, 0, 0, 0xff, 0xff, 0xff, 0xff⟩ = some 0xffffffff ∧
      r1After .little [(.r2, 0x1122334455667788)]
        ⟨0xbf, 0x21, 0, 0, 0, 0, 0, 0⟩ = some 0x1122334455667788 ∧
      r1After .little [(.r2, 0x1122334455667788)]
        ⟨0xbc, 0x21, 0, 0, 0, 0, 0, 0⟩ = some 0x55667788 ∧
      r1After .little [(.r10, 0x2000)]
        ⟨0xbf, 0xa1, 0, 0, 0, 0, 0, 0⟩ = some 0x2000 ∧
      r1After .little [(.r2, 0x1280)]
        ⟨0xbf, 0x21, 0x08, 0, 0, 0, 0, 0⟩ = some 0xffffffffffffff80 := by decide

/- 95_test_vectors.md part 2.4, vectors B33 to B41. -/
theorem test_bits_shifts_moves_part3 :
      r1After .little [(.r2, 0xffffff7f)]
        ⟨0xbf, 0x21, 0x08, 0, 0, 0, 0, 0⟩ = some 0x7f ∧
      r1After .little [(.r2, 0x12348000)]
        ⟨0xbf, 0x21, 0x10, 0, 0, 0, 0, 0⟩ = some 0xffffffffffff8000 ∧
      r1After .little [(.r2, 0x180000000)]
        ⟨0xbf, 0x21, 0x20, 0, 0, 0, 0, 0⟩ = some 0xffffffff80000000 ∧
      r1After .little [(.r2, 0xffffffff7fffffff)]
        ⟨0xbf, 0x21, 0x20, 0, 0, 0, 0, 0⟩ = some 0x7fffffff ∧
      r1After .little [(.r2, 0x1280)]
        ⟨0xbc, 0x21, 0x08, 0, 0, 0, 0, 0⟩ = some 0xffffff80 ∧
      r1After .little [(.r2, 0x12348000)]
        ⟨0xbc, 0x21, 0x10, 0, 0, 0, 0, 0⟩ = some 0xffff8000 ∧
      r1After .little [(.r2, 0xffff7fff)]
        ⟨0xbc, 0x21, 0x10, 0, 0, 0, 0, 0⟩ = some 0x7fff ∧
      r1After .little [(.r2, 0xffffffff80000000)]
        ⟨0xbc, 0x21, 0x20, 0, 0, 0, 0, 0⟩ = some 0x80000000 ∧
      r1After .little []
        ⟨0xb7, 0x01, 0x08, 0, 0x80, 0x12, 0, 0⟩ = some 0xffffffffffffff80 := by decide

/- 95_test_vectors.md part 2.5, vectors E1 to E9. -/
theorem test_byte_swap :
      r1After .little [(.r1, 0x1122334455667788)]
        ⟨0xd4, 0x01, 0, 0, 0x10, 0, 0, 0⟩ = some 0x7788 ∧
      r1After .little [(.r1, 0x1122334455667788)]
        ⟨0xd4, 0x01, 0, 0, 0x20, 0, 0, 0⟩ = some 0x55667788 ∧
      r1After .little [(.r1, 0x1122334455667788)]
        ⟨0xd4, 0x01, 0, 0, 0x40, 0, 0, 0⟩ = some 0x1122334455667788 ∧
      r1After .little [(.r1, 0x1122334455667788)]
        ⟨0xdc, 0x01, 0, 0, 0x10, 0, 0, 0⟩ = some 0x8877 ∧
      r1After .little [(.r1, 0x1122334455667788)]
        ⟨0xdc, 0x01, 0, 0, 0x20, 0, 0, 0⟩ = some 0x88776655 ∧
      r1After .little [(.r1, 0x1122334455667788)]
        ⟨0xdc, 0x01, 0, 0, 0x40, 0, 0, 0⟩ = some 0x8877665544332211 ∧
      r1After .little [(.r1, 0x1122334455667788)]
        ⟨0xd7, 0x01, 0, 0, 0x10, 0, 0, 0⟩ = some 0x8877 ∧
      r1After .little [(.r1, 0x1122334455667788)]
        ⟨0xd7, 0x01, 0, 0, 0x20, 0, 0, 0⟩ = some 0x88776655 ∧
      r1After .little [(.r1, 0x1122334455667788)]
        ⟨0xd7, 0x01, 0, 0, 0x40, 0, 0, 0⟩ = some 0x8877665544332211 := by decide

/- 95_test_vectors.md part 2.6 and 2.7, vectors J1 to J16. -/
theorem test_jump_part1 :
      pcAfter []
        ⟨0x05, 0, 0x03, 0, 0, 0, 0, 0⟩ = some 14 ∧
      pcAfter []
        ⟨0x05, 0, 0xf5, 0xff, 0, 0, 0, 0⟩ = some 0 ∧
      pcAfter []
        ⟨0x05, 0, 0, 0, 0, 0, 0, 0⟩ = some 11 ∧
      pcAfter []
        ⟨0x06, 0, 0, 0, 0x05, 0, 0, 0⟩ = some 16 ∧
      pcAfter []
        ⟨0x06, 0, 0, 0, 0xf5, 0xff, 0xff, 0xff⟩ = some 0 ∧
      pcAfter [(.r1, 0x7), (.r2, 0x7)]
        ⟨0x1d, 0x21, 0x05, 0, 0, 0, 0, 0⟩ = some 16 ∧
      pcAfter [(.r1, 0xffffffffffffffff)]
        ⟨0x15, 0x01, 0x05, 0, 0xff, 0xff, 0xff, 0xff⟩ = some 16 ∧
      pcAfter [(.r1, 0xffffffff)]
        ⟨0x15, 0x01, 0x05, 0, 0xff, 0xff, 0xff, 0xff⟩ = some 11 ∧
      pcAfter [(.r1, 0xffffffff)]
        ⟨0x16, 0x01, 0x05, 0, 0xff, 0xff, 0xff, 0xff⟩ = some 16 ∧
      pcAfter [(.r1, 0x1111111100000005), (.r2, 0x2222222200000005)]
        ⟨0x1e, 0x21, 0x05, 0, 0, 0, 0, 0⟩ = some 16 ∧
      pcAfter [(.r1, 0x1111111100000005), (.r2, 0x2222222200000005)]
        ⟨0x5d, 0x21, 0x05, 0, 0, 0, 0, 0⟩ = some 16 ∧
      pcAfter [(.r1, 0x1111111100000005), (.r2, 0x2222222200000005)]
        ⟨0x5e, 0x21, 0x05, 0, 0, 0, 0, 0⟩ = some 11 ∧
      pcAfter [(.r1, 0xffffffffffffffff), (.r2, 0x1)]
        ⟨0x2d, 0x21, 0x05, 0, 0, 0, 0, 0⟩ = some 16 ∧
      pcAfter [(.r1, 0xffffffffffffffff), (.r2, 0x1)]
        ⟨0x6d, 0x21, 0x05, 0, 0, 0, 0, 0⟩ = some 11 ∧
      pcAfter [(.r1, 0x5), (.r2, 0x5)]
        ⟨0x2d, 0x21, 0x05, 0, 0, 0, 0, 0⟩ = some 11 ∧
      pcAfter [(.r1, 0x5), (.r2, 0x5)]
        ⟨0x3d, 0x21, 0x05, 0, 0, 0, 0, 0⟩ = some 16 := by decide

/- 95_test_vectors.md part 2.6 and 2.7, vectors J17 to J32. -/
theorem test_jump_part2 :
      pcAfter [(.r1, 0x100000000), (.r2, 0x1)]
        ⟨0x2e, 0x21, 0x05, 0, 0, 0, 0, 0⟩ = some 11 ∧
      pcAfter [(.r1, 0x100000000), (.r2, 0x1)]
        ⟨0x2d, 0x21, 0x05, 0, 0, 0, 0, 0⟩ = some 16 ∧
      pcAfter [(.r1, 0xffffffff)]
        ⟨0x66, 0x01, 0xfc, 0xff, 0xfe, 0xff, 0xff, 0xff⟩ = some 7 ∧
      pcAfter [(.r1, 0x80000000)]
        ⟨0x66, 0x01, 0x05, 0, 0, 0, 0, 0⟩ = some 11 ∧
      pcAfter [(.r1, 0x80000000)]
        ⟨0x65, 0x01, 0x05, 0, 0, 0, 0, 0⟩ = some 16 ∧
      pcAfter [(.r1, 0x8000000000000000), (.r2, 0x8000000000000000)]
        ⟨0x7d, 0x21, 0x05, 0, 0, 0, 0, 0⟩ = some 16 ∧
      pcAfter [(.r1, 0x7fffffff), (.r2, 0x80000000)]
        ⟨0x7e, 0x21, 0x05, 0, 0, 0, 0, 0⟩ = some 16 ∧
      pcAfter [(.r1, 0x7fffffff), (.r2, 0x80000000)]
        ⟨0x3e, 0x21, 0x05, 0, 0, 0, 0, 0⟩ = some 11 ∧
      pcAfter [(.r1, 0x1), (.r2, 0xffffffffffffffff)]
        ⟨0xad, 0x21, 0x05, 0, 0, 0, 0, 0⟩ = some 16 ∧
      pcAfter [(.r1, 0x1), (.r2, 0xffffffffffffffff)]
        ⟨0xcd, 0x21, 0x05, 0, 0, 0, 0, 0⟩ = some 11 ∧
      pcAfter [(.r1, 0xffffffff00000009)]
        ⟨0xa6, 0x01, 0x05, 0, 0x0a, 0, 0, 0⟩ = some 16 ∧
      pcAfter [(.r1, 0x5), (.r2, 0x5)]
        ⟨0xbd, 0x21, 0x05, 0, 0, 0, 0, 0⟩ = some 16 ∧
      pcAfter [(.r1, 0xffffffff)]
        ⟨0xb6, 0x01, 0x05, 0, 0xff, 0xff, 0xff, 0xff⟩ = some 16 ∧
      pcAfter [(.r1, 0xffffffffffffffff)]
        ⟨0xc5, 0x01, 0x05, 0, 0, 0, 0, 0⟩ = some 16 ∧
      pcAfter [(.r1, 0x80000000), (.r2, 0x0)]
        ⟨0xce, 0x21, 0x05, 0, 0, 0, 0, 0⟩ = some 16 ∧
      pcAfter [(.r1, 0xffffffffffffffff)]
        ⟨0xd5, 0x01, 0x05, 0, 0xff, 0xff, 0xff, 0xff⟩ = some 16 := by decide

/- 95_test_vectors.md part 2.6 and 2.7, vectors J33 to J40. -/
theorem test_jump_part3 :
      pcAfter [(.r1, 0x1), (.r2, 0xffffffff)]
        ⟨0xde, 0x21, 0x05, 0, 0, 0, 0, 0⟩ = some 11 ∧
      pcAfter [(.r1, 0x18)]
        ⟨0x45, 0x01, 0x05, 0, 0x08, 0, 0, 0⟩ = some 16 ∧
      pcAfter [(.r1, 0x100000000)]
        ⟨0x45, 0x01, 0x05, 0, 0, 0, 0, 0x80⟩ = some 16 ∧
      pcAfter [(.r1, 0x100000000)]
        ⟨0x46, 0x01, 0x05, 0, 0, 0, 0, 0x80⟩ = some 11 ∧
      pcAfter [(.r1, 0xf0), (.r2, 0xf)]
        ⟨0x4d, 0x21, 0x05, 0, 0, 0, 0, 0⟩ = some 11 ∧
      pcAfter [(.r10, 0x2008)]
        ⟨0x45, 0x0a, 0x01, 0, 0x08, 0, 0, 0⟩ = some 12 ∧
      pcAfter [(.r1, 0x1234)]
        ⟨0x1d, 0x11, 0xf5, 0xff, 0, 0, 0, 0⟩ = some 0 ∧
      pcAfter [(.r1, 0x0)]
        ⟨0x15, 0x01, 0, 0, 0, 0, 0, 0⟩ = some 11 := by decide

/- The same vectors on a big-endian host. -/
theorem test_byte_swap_big :
      r1After .big [(.r1, 0x1122334455667788)]
        ⟨0xd4, 0x10, 0, 0, 0, 0, 0, 0x10⟩ = some 0x8877 ∧
      r1After .big [(.r1, 0x1122334455667788)]
        ⟨0xd4, 0x10, 0, 0, 0, 0, 0, 0x20⟩ = some 0x88776655 ∧
      r1After .big [(.r1, 0x1122334455667788)]
        ⟨0xd4, 0x10, 0, 0, 0, 0, 0, 0x40⟩ = some 0x8877665544332211 ∧
      r1After .big [(.r1, 0x1122334455667788)]
        ⟨0xdc, 0x10, 0, 0, 0, 0, 0, 0x10⟩ = some 0x7788 ∧
      r1After .big [(.r1, 0x1122334455667788)]
        ⟨0xdc, 0x10, 0, 0, 0, 0, 0, 0x20⟩ = some 0x55667788 ∧
      r1After .big [(.r1, 0x1122334455667788)]
        ⟨0xdc, 0x10, 0, 0, 0, 0, 0, 0x40⟩ = some 0x1122334455667788 ∧
      r1After .big [(.r1, 0x1122334455667788)]
        ⟨0xd7, 0x10, 0, 0, 0, 0, 0, 0x10⟩ = some 0x8877 ∧
      r1After .big [(.r1, 0x1122334455667788)]
        ⟨0xd7, 0x10, 0, 0, 0, 0, 0, 0x20⟩ = some 0x88776655 ∧
      r1After .big [(.r1, 0x1122334455667788)]
        ⟨0xd7, 0x10, 0, 0, 0, 0, 0, 0x40⟩ = some 0x8877665544332211 := by decide

/- 95_test_vectors.md part 2.8, Z1 to Z12: the canonical word is in the fault record (R262). -/
theorem test_reserved_part1 :
      faultAfter [] ⟨0xe7, 0, 0, 0, 0, 0, 0, 0⟩ = some (.illegalInstruction 10 0x00000000000000e7) ∧
      faultAfter [] ⟨0xf4, 0, 0, 0, 0, 0, 0, 0⟩ = some (.illegalInstruction 10 0x00000000000000f4) ∧
      faultAfter [] ⟨0xe5, 0, 0, 0, 0, 0, 0, 0⟩ = some (.illegalInstruction 10 0x00000000000000e5) ∧
      faultAfter [] ⟨0x07, 0x01, 0x02, 0, 0, 0, 0, 0⟩ = some (.illegalInstruction 10 0x0000000000020107) ∧
      faultAfter [] ⟨0x07, 0x01, 0x01, 0, 0, 0, 0, 0⟩ = some (.illegalInstruction 10 0x0000000000010107) ∧
      faultAfter [] ⟨0xbf, 0x21, 0x04, 0, 0, 0, 0, 0⟩ = some (.illegalInstruction 10 0x00000000000421bf) ∧
      faultAfter [] ⟨0xd4, 0x01, 0, 0, 0x18, 0, 0, 0⟩ = some (.illegalInstruction 10 0x00000018000001d4) ∧
      faultAfter [] ⟨0xdf, 0x01, 0, 0, 0x40, 0, 0, 0⟩ = some (.illegalInstruction 10 0x00000040000001df) ∧
      faultAfter [] ⟨0x8c, 0x01, 0, 0, 0, 0, 0, 0⟩ = some (.illegalInstruction 10 0x000000000000018c) ∧
      faultAfter [] ⟨0x0d, 0, 0x03, 0, 0, 0, 0, 0⟩ = some (.illegalInstruction 10 0x000000000003000d) ∧
      faultAfter [] ⟨0x86, 0, 0, 0, 0x07, 0, 0, 0⟩ = some (.illegalInstruction 10 0x0000000700000086) ∧
      faultAfter [] ⟨0x9d, 0, 0, 0, 0, 0, 0, 0⟩ = some (.illegalInstruction 10 0x000000000000009d) := by decide

/- 95_test_vectors.md part 2.8, Z13 to Z23: the canonical word is in the fault record (R262). -/
theorem test_reserved_part2 :
      faultAfter [] ⟨0x85, 0x30, 0, 0, 0x05, 0, 0, 0⟩ = some (.illegalInstruction 10 0x0000000500003085) ∧
      faultAfter [] ⟨0x95, 0x10, 0, 0, 0, 0, 0, 0⟩ = some (.illegalInstruction 10 0x0000000000001095) ∧
      faultAfter [] ⟨0x0f, 0x21, 0, 0, 0x01, 0, 0, 0⟩ = some (.illegalInstruction 10 0x000000010000210f) ∧
      faultAfter [] ⟨0x07, 0x21, 0, 0, 0x05, 0, 0, 0⟩ = some (.illegalInstruction 10 0x0000000500002107) ∧
      faultAfter [] ⟨0x95, 0x01, 0, 0, 0, 0, 0, 0⟩ = some (.illegalInstruction 10 0x0000000000000195) ∧
      faultAfter [] ⟨0x05, 0, 0x03, 0, 0x01, 0, 0, 0⟩ = some (.illegalInstruction 10 0x0000000100030005) ∧
      faultAfter [] ⟨0x06, 0, 0x03, 0, 0x05, 0, 0, 0⟩ = some (.illegalInstruction 10 0x0000000500030006) ∧
      faultAfter [] ⟨0x07, 0x0a, 0, 0, 0x01, 0, 0, 0⟩ = some (.illegalInstruction 10 0x0000000100000a07) ∧
      faultAfter [] ⟨0x0f, 0x2b, 0, 0, 0, 0, 0, 0⟩ = some (.illegalInstruction 10 0x0000000000002b0f) ∧
      faultAfter [] ⟨0x0f, 0xc1, 0, 0, 0, 0, 0, 0⟩ = some (.illegalInstruction 10 0x000000000000c10f) ∧
      faultAfter [] ⟨0x15, 0x0b, 0, 0, 0, 0, 0, 0⟩ = some (.illegalInstruction 10 0x0000000000000b15) := by decide

/- 96_supplement_vectors.md part 2.9, little-endian host. -/
theorem test_loads_little :
      loadAfter .little ⟨0x79, 0x21, 0, 0, 0, 0, 0, 0⟩ = some 0x1122334455667788 ∧
      loadAfter .little ⟨0x61, 0x21, 0, 0, 0, 0, 0, 0⟩ = some 0x55667788 ∧
      loadAfter .little ⟨0x61, 0x21, 0x04, 0, 0, 0, 0, 0⟩ = some 0x11223344 ∧
      loadAfter .little ⟨0x69, 0x21, 0x06, 0, 0, 0, 0, 0⟩ = some 0x1122 ∧
      loadAfter .little ⟨0x71, 0xa1, 0xff, 0xff, 0, 0, 0, 0⟩ = some 0x11 ∧
      loadAfter .little ⟨0x81, 0x21, 0, 0, 0, 0, 0, 0⟩ = some 0x55667788 ∧
      loadAfter .little ⟨0x89, 0x21, 0, 0, 0, 0, 0, 0⟩ = some 0x7788 ∧
      loadAfter .little ⟨0x91, 0x21, 0, 0, 0, 0, 0, 0⟩ = some 0xffffffffffffff88 ∧
      loadAfter .little ⟨0x91, 0x21, 0x07, 0, 0, 0, 0, 0⟩ = some 0x11 := by decide

/- 96_supplement_vectors.md part 2.9, big-endian host. -/
theorem test_loads_big :
      loadAfter .big ⟨0x79, 0x12, 0, 0, 0, 0, 0, 0⟩ = some 0x8877665544332211 ∧
      loadAfter .big ⟨0x61, 0x12, 0, 0, 0, 0, 0, 0⟩ = some 0x88776655 ∧
      loadAfter .big ⟨0x61, 0x12, 0, 0x04, 0, 0, 0, 0⟩ = some 0x44332211 ∧
      loadAfter .big ⟨0x69, 0x12, 0, 0x06, 0, 0, 0, 0⟩ = some 0x2211 ∧
      loadAfter .big ⟨0x71, 0x1a, 0xff, 0xff, 0, 0, 0, 0⟩ = some 0x11 ∧
      loadAfter .big ⟨0x81, 0x12, 0, 0, 0, 0, 0, 0⟩ = some 0xffffffff88776655 ∧
      loadAfter .big ⟨0x89, 0x12, 0, 0, 0, 0, 0, 0⟩ = some 0xffffffffffff8877 ∧
      loadAfter .big ⟨0x91, 0x12, 0, 0, 0, 0, 0, 0⟩ = some 0xffffffffffffff88 ∧
      loadAfter .big ⟨0x91, 0x12, 0, 0x07, 0, 0, 0, 0⟩ = some 0x11 := by decide

/- 96_supplement_vectors.md part 2.9, little-endian host. -/
theorem test_stores_little :
      bytesAfter .little ⟨0x63, 0x3a, 0xf8, 0xff, 0, 0, 0, 0⟩ =
        [0xa8, 0xa7, 0xa6, 0xa5, 0x44, 0x33, 0x22, 0x11] ∧
      bytesAfter .little ⟨0x6b, 0x3a, 0xfe, 0xff, 0, 0, 0, 0⟩ =
        [0x88, 0x77, 0x66, 0x55, 0x44, 0x33, 0xa8, 0xa7] ∧
      bytesAfter .little ⟨0x73, 0x3a, 0xf8, 0xff, 0, 0, 0, 0⟩ =
        [0xa8, 0x77, 0x66, 0x55, 0x44, 0x33, 0x22, 0x11] ∧
      bytesAfter .little ⟨0x7b, 0x3a, 0xf8, 0xff, 0, 0, 0, 0⟩ =
        [0xa8, 0xa7, 0xa6, 0xa5, 0xa4, 0xa3, 0xa2, 0xa1] ∧
      bytesAfter .little ⟨0x62, 0x0a, 0xfc, 0xff, 0xfe, 0xff, 0xff, 0xff⟩ =
        [0x88, 0x77, 0x66, 0x55, 0xfe, 0xff, 0xff, 0xff] ∧
      bytesAfter .little ⟨0x7a, 0x0a, 0xf8, 0xff, 0xfe, 0xff, 0xff, 0xff⟩ =
        [0xfe, 0xff, 0xff, 0xff, 0xff, 0xff, 0xff, 0xff] ∧
      bytesAfter .little ⟨0x72, 0x0a, 0xff, 0xff, 0xff, 0x01, 0, 0⟩ =
        [0x88, 0x77, 0x66, 0x55, 0x44, 0x33, 0x22, 0xff] := by decide

/- 96_supplement_vectors.md part 2.9, big-endian host. -/
theorem test_stores_big :
      bytesAfter .big ⟨0x63, 0xa3, 0xff, 0xf8, 0, 0, 0, 0⟩ =
        [0xa5, 0xa6, 0xa7, 0xa8, 0x44, 0x33, 0x22, 0x11] ∧
      bytesAfter .big ⟨0x6b, 0xa3, 0xff, 0xfe, 0, 0, 0, 0⟩ =
        [0x88, 0x77, 0x66, 0x55, 0x44, 0x33, 0xa7, 0xa8] ∧
      bytesAfter .big ⟨0x73, 0xa3, 0xff, 0xf8, 0, 0, 0, 0⟩ =
        [0xa8, 0x77, 0x66, 0x55, 0x44, 0x33, 0x22, 0x11] ∧
      bytesAfter .big ⟨0x7b, 0xa3, 0xff, 0xf8, 0, 0, 0, 0⟩ =
        [0xa1, 0xa2, 0xa3, 0xa4, 0xa5, 0xa6, 0xa7, 0xa8] ∧
      bytesAfter .big ⟨0x62, 0xa0, 0xff, 0xfc, 0xff, 0xff, 0xff, 0xfe⟩ =
        [0x88, 0x77, 0x66, 0x55, 0xff, 0xff, 0xff, 0xfe] ∧
      bytesAfter .big ⟨0x7a, 0xa0, 0xff, 0xf8, 0xff, 0xff, 0xff, 0xfe⟩ =
        [0xff, 0xff, 0xff, 0xff, 0xff, 0xff, 0xff, 0xfe] ∧
      bytesAfter .big ⟨0x72, 0xa0, 0xff, 0xff, 0, 0, 0x01, 0xff⟩ =
        [0x88, 0x77, 0x66, 0x55, 0x44, 0x33, 0x22, 0xff] := by decide

/-! ### Witnesses: for every statement with hypotheses, states and operands that meet them together, clause by clause -/

/-- Registers of the witnesses: R4 is unwritten, R2 points at the eight bytes. -/
def wRegs : List (Reg × Word) :=
  [(.r0, 0x55667788), (.r1, 0xdeadbeefcafef00d), (.r2, 0x1ff8), (.r3, 0), (.r5, 0xffffffffffffffff), (.r6, 6),
    (.r10, 0x2000)]

/-- Slot 1 follows. -/
def two : State := demo wRegs [exitSlot, exitSlot]

/-- Nothing follows. -/
def one : State := demo wRegs [exitSlot]

/-- The registers the arithmetic rules name, and both ways to go on. -/
def ArithHypotheses (D S : Word) : Prop :=
  (two.setReg .r6 D).regs.get .r6 = .written D ∧ ((two.setReg .r6 D).setReg .r5 S).regs.get .r5 = .written S ∧
    ((two.setReg .r6 D).setReg .r5 S).regs.get .r6 = .written D ∧
    two.regs.get .r4 = .unwritten ∧ two.Lands ((two.pc : Int) + 1) ∧ ¬ one.Lands ((one.pc : Int) + 1)

theorem goes_eq (o : Out) (t : State) : (goes o t = true) = (o = .next t) := by
  cases o <;> simp [goes]

theorem next_of_goes {o : Out} {t : State} (h : goes o t = true) : o = .next t := goes_eq o t ▸ h

theorem two_running : two.Running := ⟨rfl, rfl⟩

theorem two_pcInv : two.PcInv := by unfold State.PcInv; decide

theorem two_written : two.Written .r0 ∧ two.Written .r1 ∧ two.Written .r2 ∧ two.Written .r3 ∧ two.Written .r10 :=
  ⟨⟨_, rfl⟩, ⟨_, rfl⟩, ⟨_, rfl⟩, ⟨_, rfl⟩, ⟨_, rfl⟩⟩

theorem two_admits :
    two.Admitted .update 0x1ff8 8 ∧ two.Admitted .read 0x1fff 1 ∧ two.Admitted .write 0x1e00 4 ∧
      two.Admitted .write 0x1ff8 8 ∧ two.Admitted .read 0x1ff8 8 :=
  ⟨⟨⟨_, .head _, by decide⟩, by decide⟩, ⟨⟨_, .head _, by decide⟩, by decide⟩, ⟨⟨_, .head _, by decide⟩, by decide⟩,
    ⟨⟨_, .head _, by decide⟩, by decide⟩, ⟨⟨_, .head _, by decide⟩, by decide⟩⟩

/-- The access at `ea` is denied: by alignment, or because no range has it. -/
theorem two_denies :
    ¬ two.Admitted .read 0x1ff9 2 ∧ ¬ two.Admitted .update 0x2000 8 ∧ ¬ two.Admitted .write 0x1dff 1 := by
  refine ⟨fun h => ?_, fun h => ?_, fun h => ?_⟩
  · exact absurd h.2 (by decide)
  · obtain ⟨r, hr, h2, h3, -⟩ := h.1
    obtain rfl : r = _ := List.mem_singleton.1 hr
    exact absurd h3 (by decide)
  · obtain ⟨r, hr, h2, -⟩ := h.1
    obtain rfl : r = _ := List.mem_singleton.1 hr
    exact absurd h2 (by decide)

theorem two_reads :
    two.Reads 0x1ff8 8 0x1122334455667788 ∧ two.Reads 0x1ff8 4 0x55667788 ∧ two.Reads 0x1ffe 2 0x1122 ∧
      two.Reads 0x1fff 1 0x11 := by
  unfold State.Reads; decide

theorem witness_SpecExampleBytesDecode :
    Params.reset.hostEndian = .little ∧ Params.reset.ldstProfile = .supplement ∧
      { Params.reset with hostEndian := .big }.hostEndian = .big := by decide

theorem witness_EncodedInstructionDecodesBack :
    (Instr.add64X .r9 .r10).wellFormed = true ∧ (Instr.add64X .r9 .r10).admitted Params.reset = true ∧
      (Instr.lddw .r1 1 2).wellFormed = true ∧ (Instr.lddw .r1 1 2).admitted Params.reset = true := by decide

theorem witness_DecodedBytesAreTheEncoding :
    Params.reset.unusedFields = .mustBeZero ∧
      decode Params.reset [exitSlot, zeroSlot] = .ok (.exit, [zeroSlot]) := ⟨rfl, rfl⟩

theorem witness_DecodedInstructionIsWellFormed :
    decode { Params.reset with unusedFields := .ignored } [⟨0x95, 1, 0, 0, 0, 0, 0, 0⟩] = .ok (.exit, []) := rfl

theorem witness_OnlyNoteFormsAreReserved :
    ((⟨0x0d, 0, 0, 0, 0, 0, 0, 0⟩ : Slot).fields .little).opcode ∈
        [0x0d#8, 0x0e#8, 0x8d#8, 0x9d#8, 0x86#8, 0x8e#8, 0x96#8, 0x9e#8, 0xdf#8] ∧
      ((⟨0x95, 0x10, 0, 0, 0, 0, 0, 0⟩ : Slot).fields .little).opcode ∈ [0x05#8, 0x06#8, 0x95#8] ∧
      ((⟨0x95, 0x10, 0, 0, 0, 0, 0, 0⟩ : Slot).fields .little).src ≠ 0 := by decide

/-- Class and code of a slot on a little-endian host. -/
def clsCode (x : Slot) : Nat × Nat :=
  (((x.fields .little).opcode.extractLsb' 0 3).toNat, ((x.fields .little).opcode.extractLsb' 4 4).toNat)

theorem witness_AbsentEncodingsAreReserved :
    clsCode ⟨0xf4, 0, 0, 0, 0, 0, 0, 0⟩ = (4, 0xf) ∧ clsCode ⟨0xe5, 0, 0, 0, 0, 0, 0, 0⟩ = (5, 0xe) ∧
      clsCode ⟨0x07, 0x01, 0x01, 0, 0, 0, 0, 0⟩ = (7, 0) ∧
      ((⟨0x07, 0x01, 0x01, 0, 0, 0, 0, 0⟩ : Slot).fields .little).off ∉ [0#16] ∧
      clsCode ⟨0xd4, 0x01, 0, 0, 0x18, 0, 0, 0⟩ = (4, 0xd) ∧
      ((⟨0xd4, 0x01, 0, 0, 0x18, 0, 0, 0⟩ : Slot).fields .little).imm ∉ [16#32, 32#32, 64#32] ∧
      ((⟨0x85, 0x30, 0, 0, 0, 0, 0, 0⟩ : Slot).fields .little).src ∉ [0#4, 1#4, 2#4] := by decide

theorem witness_RegisterNumbersAreReserved :
    clsCode ⟨0x07, 0x0a, 0, 0, 0, 0, 0, 0⟩ = (7, 0) ∧
      10 ≤ ((⟨0x07, 0x0a, 0, 0, 0, 0, 0, 0⟩ : Slot).fields .little).dst.toNat ∧
      clsCode ⟨0x0f, 0xb1, 0, 0, 0, 0, 0, 0⟩ = (7, 0) ∧
      11 ≤ ((⟨0x0f, 0xb1, 0, 0, 0, 0, 0, 0⟩ : Slot).fields .little).src.toNat ∧
      clsCode ⟨0x15, 0x0b, 0, 0, 0, 0, 0, 0⟩ = (5, 1) ∧
      11 ≤ ((⟨0x15, 0x0b, 0, 0, 0, 0, 0, 0⟩ : Slot).fields .little).dst.toNat ∧
      ((⟨0x15, 0x0a, 0, 0, 0, 0, 0, 0⟩ : Slot).fields .little).dst = 10#4 ∧
      clsCode ⟨0x61, 0x0b, 0, 0, 0, 0, 0, 0⟩ = (1, 6) ∧
      11 ≤ ((⟨0x61, 0x0b, 0, 0, 0, 0, 0, 0⟩ : Slot).fields .little).dst.toNat ∧
      Params.reset.ldstProfile = .supplement := by decide

theorem witness_ReservedFieldMustBeZero :
    Params.reset.ldstProfile = .supplement ∧ (⟨0x18, 0, 0, 0, 0, 0, 0, 0⟩ : Slot).isExtended = true ∧
      (⟨0, 0, 0, 1, 0, 0, 0, 0⟩ : Slot).reserved Params.reset.hostEndian ≠ 0 := by decide

theorem witness_LegacyPacketLoadsAreRefused :
    ((⟨0x20, 0, 0, 0, 1, 0, 0, 0⟩ : Slot).fields .little).opcode ∈
        [0x20#8, 0x28#8, 0x30#8, 0x40#8, 0x48#8, 0x50#8] ∧
      Params.reset.ldstProfile = .supplement ∧ (Instr.ldindb 1).isLegacy = true := by decide

theorem witness_InstructionsFillOneOrTwoSlots :
    decode Params.reset (exitSlot :: [zeroSlot]) = .ok (.exit, [zeroSlot]) ∧
      decode Params.reset (lddwSlots ++ [exitSlot]) = .ok (.lddw .r1 0x55667788 0x11223344, [exitSlot]) := ⟨rfl, rfl⟩

theorem witness_SecondHalvesFollowExtendedFirstHalves :
    lddwSlots[0]? = some ⟨0x18, 0x01, 0, 0, 0x88, 0x77, 0x66, 0x55⟩ ∧ 0 + 1 < lddwSlots.length := by decide

theorem witness_StepRunsDecodedInstruction :
    two.Running ∧ two.PcInv ∧ decode two.params (two.prog.drop two.pc) = .ok (.exit, [exitSlot]) :=
  ⟨two_running, two_pcInv, rfl⟩

/-- A reserved encoding at slot 0. -/
def bad : State := demo wRegs [⟨0xe7, 0, 0, 0, 0, 0, 0, 0⟩]

/-- A load at slot 0 under `LDST_PROFILE = refuse`. -/
def refusing : State :=
  { demo wRegs [⟨0x61, 0, 0, 0, 0, 0, 0, 0⟩] with params := { Params.reset with ldstProfile := .refuse } }

theorem witness_UndecodableSlotFaultsOrRefuses :
    (bad.Running ∧ bad.PcInv ∧ bad.prog.drop bad.pc = [⟨0xe7, 0, 0, 0, 0, 0, 0, 0⟩] ∧
        Reserved bad.params [⟨0xe7, 0, 0, 0, 0, 0, 0, 0⟩] ∧ bad.params.ldstProfile = .supplement) ∧
      (refusing.Running ∧ refusing.PcInv ∧ refusing.prog.drop refusing.pc = [⟨0x61, 0, 0, 0, 0, 0, 0, 0⟩] ∧
        refusing.params.ldstProfile = .refuse ∧
        ((⟨0x61, 0, 0, 0, 0, 0, 0, 0⟩ : Slot).b0.extractLsb' 0 3).toNat < 4) :=
  ⟨⟨⟨rfl, rfl⟩, by unfold State.PcInv; decide, rfl, ⟨.noInstruction, rfl, by decide⟩, rfl⟩, ⟨rfl, rfl⟩,
    by unfold State.PcInv; decide, rfl, rfl, by decide⟩

theorem witness_StoppedRunHasNoStep :
    (two.faulted (.callDepthExceeded 0)).fault = some (.callDepthExceeded 0) ∧
      two.fault = none ∧ { two with result := some 1 }.result = some 1 := by decide

theorem witness_AddSubMulNegResults :
    ArithHypotheses 0xffffffffffffffff 1 ∧ (⟨0x8f, 0, 0, 0, 0, 0, 0, 0⟩ : Slot).b0 = 0x8f#8 := by
  unfold ArithHypotheses; decide

theorem witness_OrAndXorResults : ArithHypotheses 0xf0f0000000000000 0x0f0f := by unfold ArithHypotheses; decide

theorem witness_MoveResults :
    ArithHypotheses 1 0x1280 ∧
      ((⟨0xb7, 0x01, 0x20, 0, 0, 0, 0, 0⟩ : Slot).fields .little).opcode ∈ [0xb7#8, 0xb4#8] ∧
      ((⟨0xb7, 0x01, 0x20, 0, 0, 0, 0, 0⟩ : Slot).fields .little).off ∈ [8#16, 16#16, 32#16] ∧
      { Params.reset with strictMovsx := true }.strictMovsx = true := by unfold ArithHypotheses; decide

theorem witness_ShiftResults : ArithHypotheses 1 0x7f ∧ ArithHypotheses 1 64 := by unfold ArithHypotheses; decide

theorem witness_DivisionResults :
    ArithHypotheses 0x8000000000000000 0xffffffffffffffff ∧ ArithHypotheses 0xdeadbeefcafef00d 0 := by
  unfold ArithHypotheses; decide

theorem witness_ByteSwapResults :
    ArithHypotheses 0x1122334455667788 0 ∧
      ({ two with params := { Params.reset with hostEndian := .big } }).Lands ((two.pc : Int) + 1) := by
  unfold ArithHypotheses; decide

theorem witness_SwapsReverseBytesAndAreInvolutions : 2 ∈ [2, 4, 8] ∧ 8 ∈ [2, 4, 8] ∧ 0 < 8 ∧ 7 < 8 := by decide

theorem witness_QuotientAndRemainderFitTogether :
    (3 : Word) ≠ 0 ∧ modS (0xfffffffffffffff3 : Word) 3 ≠ 0 ∧ modS (0xfffffff3 : Half) 3 ≠ 0 := by decide

theorem witness_ArithmeticRaisesNothing :
    (Instr.add64X .r1 .r2).isArith = true ∧ (∀ r ∈ (Instr.add64X .r1 .r2).reads, two.Written r) := by
  refine ⟨rfl, fun r hr => ?_⟩
  have hr : r = .r1 ∨ r = .r2 := by revert r; decide
  rcases hr with rfl | rfl
  · exact ⟨_, rfl⟩
  · exact ⟨_, rfl⟩

theorem witness_FirstUnwrittenReadFaults :
    (Instr.add64X .r1 .r4).reads = [.r1] ++ .r4 :: [] ∧ (∀ q ∈ [Reg.r1], two.Written q) ∧
      two.regs.get .r4 = .unwritten :=
  ⟨rfl, fun q hq => by rw [List.mem_singleton.1 hq]; exact ⟨_, rfl⟩, rfl⟩

theorem witness_ArithmeticFrame :
    (Instr.mov64K .r1 3).isArith = true ∧ exec (.mov64K .r1 3) two = .next { two.setReg .r1 3 with pc := 1 } :=
  ⟨rfl, next_of_goes (by decide)⟩

/-- `wRegs` with other upper halves. -/
def otherHalves : Regs := { two.regs with r1 := .written 0xcafef00d, r5 := .written 0xffffffff }

theorem witness_UpperHalvesAreNotRead :
    ((Instr.add32X .r1 .r5).fields.opcode.extractLsb' 0 3 = 4#3 ∧
        (Instr.add32X .r1 .r5).fields.opcode.extractLsb' 4 4 ≠ 13#4) ∧
      (Instr.jeq32K .r1 0 0 0).fields.opcode.extractLsb' 0 3 = 6#3 ∧
      (∀ r, (two.regs.get r = .unwritten ∧ otherHalves.get r = .unwritten) ∨
        ∃ v w : Word, two.regs.get r = .written v ∧ otherHalves.get r = .written w ∧ v.setWidth 32 = w.setWidth 32) ∧
      two.fault = none ∧
      exec (.add32X .r1 .r5) two = .next { two.setReg .r1 0xcafef00c with pc := 1 } ∧
      exec (.add32X .r1 .r5) { two with regs := otherHalves } = .next
        { State.setReg { two with regs := otherHalves } .r1 0xcafef00c with pc := 1 } := by
  refine ⟨by decide, by decide, fun r => ?_, rfl, next_of_goes (by decide), next_of_goes (by decide)⟩
  cases r
  case r4 | r7 | r8 | r9 => exact .inl ⟨rfl, rfl⟩
  all_goals exact .inr ⟨_, _, rfl, rfl, by decide⟩

theorem witness_UnconditionalJumps :
    two.Lands ((two.pc : Int) + 1 + (-1 : Off).toInt) ∧ two.Lands ((two.pc : Int) + 1 + (0 : Imm).toInt) ∧
      ¬ two.Lands ((two.pc : Int) + 1 + (1 : Off).toInt) ∧ ¬ two.Lands ((two.pc : Int) + 1 + (-2 : Imm).toInt) := by
  decide

theorem witness_ConditionalJumps64 :
    ArithHypotheses 1 1 ∧ ArithHypotheses 0 1 ∧ ArithHypotheses 0xffffffffffffffff 1 ∧
      two.Lands ((two.pc : Int) + 1 + (-1 : Off).toInt) ∧ ¬ two.Lands ((two.pc : Int) + 1 + (0x7fff : Off).toInt) := by
  unfold ArithHypotheses; decide

theorem witness_ConditionalJumps32 :
    ArithHypotheses 0xffffffff00000001 1 ∧ ArithHypotheses 0 1 ∧ ArithHypotheses 0xffffffff 1 ∧
      two.Lands ((two.pc : Int) + 1 + (-1 : Off).toInt) ∧ ¬ two.Lands ((two.pc : Int) + 1 + (0x7fff : Off).toInt) := by
  unfold ArithHypotheses; decide

theorem witness_JumpFrame :
    (Instr.ja 0).isJump = true ∧ exec (.ja 0) two = .next { two with pc := 1 } ∧
      exec (.ja 1) two = .next { two with fault := some (.badJumpTarget 0 2) } := by
  simp only [← goes_eq]; decide

/-- As many frames as `MAX_CALL_DEPTH`. -/
def deep : State := { two with stack := List.replicate 8 frameP2 }

theorem witness_CallLocalEffect :
    (demo [] [exitSlot]).regs.get .r10 = .unwritten ∧
      (two.Written .r10 ∧ ¬ two.Lands ((two.pc : Int) + 1 + (1 : Imm).toInt)) ∧
      (deep.Written .r10 ∧ deep.Lands ((deep.pc : Int) + 1 + (0 : Imm).toInt) ∧
        deep.stack.length = deep.params.maxCallDepth) ∧
      (two.regs.get .r10 = .written 0x2000 ∧ two.Lands ((two.pc : Int) + 1 + (0 : Imm).toInt) ∧
        two.stack.length ≠ two.params.maxCallDepth) :=
  ⟨rfl, ⟨⟨_, rfl⟩, by decide⟩, ⟨⟨_, rfl⟩, by decide, rfl⟩, rfl, by decide, by decide⟩

theorem witness_ExitEffect :
    (demo [] [exitSlot]).regs.get .r0 = .unwritten ∧
      (two.regs.get .r0 = .written 0x55667788 ∧ two.stack = []) ∧
      (deep.Written .r0 ∧ deep.stack = frameP2 :: List.replicate 7 frameP2 ∧ ¬ deep.Lands (frameP2.ret : Int)) ∧
      two.Lands (({ frameP2 with ret := 1 }).ret : Int) :=
  ⟨rfl, ⟨rfl, rfl⟩, ⟨⟨_, rfl⟩, rfl, by decide⟩, by decide⟩

theorem witness_RunEndsExactlyAtOutermostExit :
    two.Running ∧ two.fetch = .run .exit ∧ two.stack = [] ∧ two.regs.get .r0 = .written 0x55667788 ∧
      step two = .next { two with result := some 0x55667788 } ∧
      { two with result := some (0x55667788 : Word) }.result ≠ none :=
  ⟨two_running, by decide, rfl, rfl, next_of_goes (by decide), by decide⟩

/-- What a CALL local at slot 0 of `two` leads to, with a result in R0. -/
def inCallee : State := (nextOf two (exec (.callLocal 0) two)).setReg .r0 9

theorem witness_CallAndMatchingExitRestoreTheCaller :
    two.fault = none ∧ exec (.callLocal 0) two = .next (nextOf two (exec (.callLocal 0) two)) ∧
      (nextOf two (exec (.callLocal 0) two)).fault = none ∧
      inCallee.stack = (nextOf two (exec (.callLocal 0) two)).stack ∧ inCallee.Written .r0 ∧
      exec .exit inCallee = .next (nextOf two (exec .exit inCallee)) ∧
      (inCallee.prog = two.prog ∧ inCallee.fault = none ∧ two.Lands ((two.pc : Int) + 1)) :=
  ⟨rfl, next_of_goes (by decide), by decide, by decide, ⟨_, rfl⟩, next_of_goes (by decide),
    by decide, by decide, by decide⟩

theorem demoHelper_found : helperFound demoHelper 7 [demoHelper] := ⟨[], [], rfl, rfl, by simp⟩

theorem related_iff {s : State} {h : Helper} {args : List Word} {o : HelperOutcome}
    (e : allowedOutcomes s h args = [o]) (p : HelperOutcome) : s.HelperRelates h args p ↔ p = o := by
  rw [← mem_allowedOutcomes_iff, e, List.mem_singleton]

theorem not_related {s : State} {h : Helper} {args : List Word} (e : allowedOutcomes s h args = [])
    (p : HelperOutcome) : ¬ s.HelperRelates h args p := by
  rw [← mem_allowedOutcomes_iff, e]; exact List.not_mem_nil

theorem witness_HelperCallEffects :
    (∀ h ∈ (calling 2 3).params.helpers, h.id ≠ 8) ∧ helperFound demoHelper 7 (calling 2 3).params.helpers ∧
      helperFound demoHelper 7 (calling 2 3).params.btfHelpers ∧
      (argRegs demoHelper = [.r1] ++ .r2 :: [] ∧ (∀ q ∈ [Reg.r1], (demo [(.r1, 2)] [zeroSlot]).Written q) ∧
        (demo [(.r1, 2)] [zeroSlot]).regs.get .r2 = .unwritten) ∧
      ((argRegs demoHelper).map (calling 2 3).regs.get = [2, 3].map .written ∧
        ∀ o, (calling 2 3).HelperRelates demoHelper [2, 3] o ↔ o = .returns 5 [(0x1ff8, 0xaa), (0x3000, 0xbb)]) ∧
      ((argRegs demoHelper).map (calling 7 7).regs.get = [7, 7].map .written ∧
        (calling 7 7).HelperRelates demoHelper [7, 7] (.returns 1 []) ∧
        (calling 7 7).HelperRelates demoHelper [7, 7] (.returns 2 [])) ∧
      ((argRegs demoHelper).map (calling 1 1).regs.get = [1, 1].map .written ∧
        ∀ o, ¬ (calling 1 1).HelperRelates demoHelper [1, 1] o) ∧
      ((argRegs demoHelper).map (calling 9 9).regs.get = [9, 9].map .written ∧
        ∀ o, (calling 9 9).HelperRelates demoHelper [9, 9] o ↔ o = .faults 4) ∧
      ((argRegs demoHelper).map (calling 8 8).regs.get = [8, 8].map .written ∧
        ∀ o, (calling 8 8).HelperRelates demoHelper [8, 8] o ↔ o = .stuck) :=
  ⟨by decide, demoHelper_found, demoHelper_found,
    ⟨by decide, fun q hq => by rw [List.mem_singleton.1 hq]; exact ⟨_, rfl⟩, rfl⟩,
    ⟨by decide, related_iff (by decide)⟩,
    ⟨by decide, mem_allowedOutcomes_iff.1 (by decide), mem_allowedOutcomes_iff.1 (by decide)⟩,
    ⟨by decide, not_related (by decide)⟩, ⟨by decide, related_iff (by decide)⟩, ⟨by decide, related_iff (by decide)⟩⟩

theorem witness_HelperCallFrame :
    exec (.callHelper 7) (calling 2 3) = .next called ∧ exec (.callBtf 7) (calling 2 3) = .next called ∧
      (calling 2 3).admits 0x3000 = false := by
  simp only [← goes_eq]; decide

theorem witness_LoadsZeroExtend :
    (two.regs.get .r2 = .written 0x1ff8 ∧ two.Admitted .read (0x1ff8 + (0 : Off).signExtend 64) 8 ∧
        two.Reads (0x1ff8 + (0 : Off).signExtend 64) 8 0x1122334455667788) ∧
      (two.regs.get .r10 = .written 0x2000 ∧ two.Admitted .read (0x2000 + (-1 : Off).signExtend 64) 1 ∧
        two.Reads (0x2000 + (-1 : Off).signExtend 64) 1 0x11) ∧
      two.regs.get .r4 = .unwritten ∧ ¬ two.Admitted .read (0x1ff8 + (1 : Off).signExtend 64) 2 ∧
      two.Lands ((two.pc : Int) + 1) ∧ ¬ one.Lands ((one.pc : Int) + 1) :=
  ⟨⟨rfl, two_admits.2.2.2.2, two_reads.1⟩, ⟨rfl, two_admits.2.1, two_reads.2.2.2⟩, rfl, two_denies.1, by decide,
    by decide⟩

theorem witness_LoadsSignExtend :
    (two.regs.get .r10 = .written 0x2000 ∧ two.Admitted .read (0x2000 + (-1 : Off).signExtend 64) 1 ∧
        two.Reads (0x2000 + (-1 : Off).signExtend 64) 1 0x11) ∧
      two.regs.get .r4 = .unwritten ∧ ¬ two.Admitted .read (0x1ff8 + (1 : Off).signExtend 64) 2 ∧
      Params.reset.ldstProfile = .supplement ∧ (⟨0x99, 0, 0, 0, 0, 0, 0, 0⟩ : Slot).b0 = 0x99#8 :=
  ⟨⟨rfl, two_admits.2.1, two_reads.2.2.2⟩, rfl, two_denies.1, rfl, rfl⟩

/-- `LD IMM DW` at slot 0, with a slot after it and without. -/
theorem witness_LoadConstant64 :
    (demo [] (lddwSlots ++ [zeroSlot])).Lands 2 ∧ ¬ (demo [] lddwSlots).Lands 2 := by decide

theorem witness_PlatformAddressLoads :
    (demo [] (lddwSlots ++ [zeroSlot])).Lands 2 ∧ ¬ (demo [] lddwSlots).Lands 2 ∧
      Params.reset.ldstProfile = .supplement ∧ (⟨0x18, 0x71, 0, 0, 0, 0, 0, 0⟩ : Slot).b0 = 0x18#8 ∧
      7 ≤ ((⟨0x18, 0x71, 0, 0, 0, 0, 0, 0⟩ : Slot).fields Params.reset.hostEndian).src.toNat := by decide

theorem witness_StoresWriteTheirBytes :
    (two.regs.get .r2 = .written 0x1ff8 ∧ two.regs.get .r1 = .written 0xdeadbeefcafef00d ∧
        two.Admitted .write (0x1ff8 + (0 : Off).signExtend 64) 8) ∧
      two.Admitted .write (0x2000 + (-512 : Off).signExtend 64) 4 ∧
      two.regs.get .r4 = .unwritten ∧ two.Written .r1 ∧
      ¬ two.Admitted .write (0x2000 + (-513 : Off).signExtend 64) 1 :=
  ⟨⟨rfl, rfl, two_admits.2.2.2.1⟩, two_admits.2.2.1, rfl, ⟨_, rfl⟩, two_denies.2.2⟩

/-- `two` after `stxdw [r2+0], r1`. -/
def stored : State := nextOf two (exec (.stxdw .r2 .r1 0) two)

theorem witness_LoadAfterStore :
    two.regs.get .r2 = .written 0x1ff8 ∧ two.regs.get .r1 = .written 0xdeadbeefcafef00d ∧ two.fault = none ∧
      exec (.stxdw .r2 .r1 0) two = .next stored ∧ stored.fault = none ∧
      { two with mem := stored.mem }.mem = stored.mem ∧ { two with mem := stored.mem }.params = two.params ∧
      { two with mem := stored.mem }.regs.get .r2 = .written 0x1ff8 ∧
      (∀ j < 8, two.shared ((0x1ff8 + (0 : Off).signExtend 64 : Word).toNat + j) = false) ∧
      { two with mem := stored.mem }.Lands (({ two with mem := stored.mem }.pc : Int) + 1) ∧
      7 < 8 ∧ (0x1ff8 + (7 : Off).signExtend 64 : Word).toNat = (0x1ff8 + (0 : Off).signExtend 64 : Word).toNat + 7 ∧
      { two with mem := stored.mem }.Admitted .read (0x1ff8 + (7 : Off).signExtend 64) 1 ∧
      { two with mem := stored.mem }.Admitted .read (0x1ff8 + (0 : Off).signExtend 64) 8 :=
  ⟨rfl, rfl, rfl, next_of_goes (by decide), by decide, rfl, rfl, rfl, by decide, by decide, by decide, by decide,
    two_admits.2.1, two_admits.2.2.2.2⟩

theorem witness_AtomicOperations :
    (two.regs.get .r2 = .written 0x1ff8 ∧ two.regs.get .r1 = .written 0xdeadbeefcafef00d ∧
        two.Admitted .update (0x1ff8 + (0 : Off).signExtend 64) 8 ∧
        two.Reads (0x1ff8 + (0 : Off).signExtend 64) 8 0x1122334455667788) ∧
      two.regs.get .r4 = .unwritten ∧ two.Written .r1 ∧ ¬ two.Admitted .update (0x2000 + (0 : Off).signExtend 64) 8 ∧
      ((⟨0xdb, 0, 0, 0, 0x02, 0, 0, 0⟩ : Slot).fields Params.reset.hostEndian).imm ∉
        [0x00#32, 0x40#32, 0x50#32, 0xa0#32, 0x01#32, 0x41#32, 0x51#32, 0xa1#32, 0xe1#32, 0xf1#32] :=
  ⟨⟨rfl, rfl, two_admits.1, two_reads.1⟩, rfl, ⟨_, rfl⟩, two_denies.2.1, by decide⟩

theorem witness_CompareAndExchange :
    (two.regs.get .r2 = .written 0x1ff8 ∧ two.regs.get .r1 = .written 0xdeadbeefcafef00d ∧
        two.regs.get .r0 = .written 0x55667788 ∧ two.Reads (0x1ff8 + (0 : Off).signExtend 64) 4 0x55667788 ∧
        (0x55667788 : Word).toNat = (0x55667788 : Word).toNat % 2 ^ (8 * 4)) ∧
      (two.Admitted .update (0x1ff8 + (0 : Off).signExtend 64) 8 ∧
        two.Reads (0x1ff8 + (0 : Off).signExtend 64) 8 0x1122334455667788 ∧
        (0x1122334455667788 : Word).toNat ≠ (0x55667788 : Word).toNat % 2 ^ (8 * 8)) ∧
      two.regs.get .r4 = .unwritten ∧ (demo [(.r1, 1)] []).regs.get .r0 = .unwritten ∧
      ¬ two.Admitted .update (0x2000 + (0 : Off).signExtend 64) 8 :=
  ⟨⟨rfl, rfl, rfl, two_reads.2.1, by decide⟩, ⟨two_admits.1, two_reads.1, by decide⟩, rfl, rfl, two_denies.2.1⟩

theorem witness_EveryAccessIsAdmittedOrDenied :
    two.Admitted .read 0x1fff 1 ∧ two.Denied .read 0x2000 1 .region ∧ two.Denied .read 0x1ff9 2 .misaligned ∧
      { two with params := { Params.reset with regions := [⟨0, 16, true, false, false⟩] } }.Denied .write 15 1
        .permission := by
  refine ⟨two_admits.2.1, ?_, ?_, ?_⟩
  · unfold State.Denied insideRange; decide
  · unfold State.Denied insideRange; decide
  · unfold State.Denied insideRange; decide

theorem two_inv : two.Inv := by unfold State.Inv; decide

theorem witness_EveryStepKeepsInv :
    two.Inv ∧ step two = .next { two with result := some 0x55667788 } := ⟨two_inv, next_of_goes (by decide)⟩

theorem witness_InvHoldsAtStart :
    State.launch Params.reset [exitSlot] [] [(5, 1), (3, 2)] = .next
      (State.entry Params.reset [exitSlot] [] [(5, 1), (3, 2)]) := by
  simp only [← goes_eq]; decide

theorem witness_PcStaysOnAFirstHalf :
    two.PcInv ∧ step two = .next { two with result := some 0x55667788 } := ⟨two_pcInv, next_of_goes (by decide)⟩

theorem witness_CheckedProgramsNeverMeetIllegalInstructions :
    two.Checked ∧ two.PcInv ∧ step two = .next { two with result := some 0x55667788 } :=
  ⟨by unfold State.Checked; decide, two_pcInv, next_of_goes (by decide)⟩

theorem witness_LoadTimeCheckReadsEveryInstruction :
    0 < (lddwSlots ++ [exitSlot]).length ∧ isSecondHalf (lddwSlots ++ [exitSlot]) 0 = false ∧
      isSecondHalf (lddwSlots ++ [exitSlot]) 1 = true ∧ isSecondHalf (lddwSlots ++ [exitSlot]) 2 = false ∧
      programProblem Params.reset (lddwSlots ++ [exitSlot]) = none := by decide

theorem witness_LaunchGivesTheEntryState :
    State.launch Params.reset [exitSlot] [(.r1, 4), (.r1, 5)] [(7, 1), (7, 2)] = .next
        (State.entry Params.reset [exitSlot] [(.r1, 4), (.r1, 5)] [(7, 1), (7, 2)]) ∧
      (∀ v : Word, (Reg.r2, v) ∉ [(Reg.r1, (4 : Word)), (.r1, 5)]) ∧
      ([(Reg.r1, (4 : Word)), (.r1, 5)] = [] ++ (.r1, 4) :: [(.r1, 5)] ∧ ∀ w : Word, (Reg.r1, w) ∉ ([] : List _)) ∧
      ([((7 : Nat), (1 : Byte)), (7, 2)] = [(7, 1)] ++ (7, 2) :: [] ∧ 7 < 2 ^ 64 ∧
        ∀ w : Byte, ((7 : Nat), w) ∉ ([] : List _)) ∧
      [exitSlot] ≠ [] := by
  refine ⟨next_of_goes (by decide), by simp, ⟨rfl, by simp⟩, ⟨rfl, by decide, by simp⟩, by simp⟩

theorem witness_ProgramAndParametersNeverChange :
    step two = .next { two with result := some 0x55667788 } := by
  simp only [← goes_eq]; decide

theorem witness_OnlyCallLocalAndExitChangeR10 :
    (Instr.callLocal 0).wellFormed = true ∧
      exec (.callLocal 0) two = .next (nextOf two (exec (.callLocal 0) two)) ∧
      (nextOf two (exec (.callLocal 0) two)).regs.r10 ≠ two.regs.r10 := by
  simp only [← goes_eq]; decide

theorem witness_OnlyCallLocalAndExitChangeTheCallStack :
    exec (.callLocal 0) two = .next (nextOf two (exec (.callLocal 0) two)) ∧
      (nextOf two (exec (.callLocal 0) two)).stack ≠ two.stack ∧
      exec .exit inCallee = .next (nextOf two (exec .exit inCallee)) ∧
      (nextOf two (exec .exit inCallee)).stack ≠ inCallee.stack := by
  simp only [← goes_eq]; decide

theorem witness_MemoryChangesOnlyWhereAdmitted :
    exec (.stxdw .r2 .r1 0) two = .next stored ∧ two.admits 0x2000 = false ∧
      exec (.mov64K .r1 3) two = .next { two.setReg .r1 3 with pc := 1 } ∧
      (Instr.mov64K .r1 3).isStore = false ∧ (∀ id, Instr.mov64K .r1 3 ≠ .callHelper id) ∧
      (∀ id, Instr.mov64K .r1 3 ≠ .callBtf id) :=
  ⟨next_of_goes (by decide), by decide, next_of_goes (by decide), rfl, fun _ => by simp, fun _ => by simp⟩

theorem witness_FaultsArePrecise :
    step bad = .next (bad.faulted (.illegalInstruction 0 0xe7)) ∧
      (∀ target, FaultRecord.illegalInstruction 0 0xe7 ≠ .badJumpTarget bad.pc target) ∧
      step (demo [] [⟨0xb7, 0, 0, 0, 0, 0, 0, 0⟩]) = .next
        { demo [(.r0, 0)] [⟨0xb7, 0, 0, 0, 0, 0, 0, 0⟩] with fault := some (.badJumpTarget 0 1) } :=
  ⟨next_of_goes (by decide), fun _ => by simp, next_of_goes (by decide)⟩

/-- `ja -1`, X8 of 95_test_vectors.md. -/
def looping : State := demo [] [⟨0x05, 0, 0xff, 0xff, 0, 0, 0, 0⟩]

theorem witness_EndlessLoopIsNoFault :
    looping.Running ∧ looping.PcInv ∧ decode looping.params (looping.prog.drop looping.pc) = .ok (.ja (-1), []) :=
  ⟨⟨rfl, rfl⟩, by unfold State.PcInv; decide, rfl⟩

end Sys2Proof.Tests
end

section
/-! PROOFS. The program text and the parameters of a run are constants of every step (O55). -/

namespace Sys2Proof.Machine

/-- Going to a slot moves `pc` or records `BadJumpTarget`, and touches no other part of the state (R163, R190). -/
theorem State.goto_frame {s t : State} {target : Int} (h : s.goto target = .next t) :
    t = { s with pc := t.pc, fault := t.fault } := by
  rcases State.goto_cases h with ⟨_, rfl⟩ | ⟨_, rfl⟩ <;> rfl

/-- However an instruction ends, it keeps the program text (R33) and the parameters (R5). -/
theorem Ends.prog_params {i : Instr} {s t : State} (h : Ends i s t) : t.prog = s.prog ∧ t.params = s.params := by
  rcases h with ⟨_, rfl⟩ | ⟨_, _, _, _, rfl⟩ | ⟨u, target, did, hgoto⟩
  · exact ⟨rfl, rfl⟩
  · exact ⟨rfl, rfl⟩
  · rw [State.goto_frame hgoto]
    exact ⟨did.prog, did.params⟩

/-- Settles O55: a step executes an instruction, which keeps both however it ends, or it records the fault of a failed
fetch and changes nothing else. -/
theorem programAndParametersNeverChange : Obligations.ProgramAndParametersNeverChange := by
  intro s t h
  obtain ⟨_, ⟨i, _, hexec⟩ | ⟨f, _, rfl⟩⟩ := step_cases h
  · exact (exec_cases hexec).prog_params
  · exact ⟨rfl, rfl⟩

end Sys2Proof.Machine
end

section
/-! PROOFS. What an instruction can do to the parts of the state that outlive it: `exec_cases` packaged for the
properties that `pc` and the records cannot disturb, and the effects on data memory, on the call stack, on R10 and
of arithmetic, each said once (O27, O56, O57, O58). -/

namespace Sys2Proof.Machine

/-- What moving `pc` and recording a fault or a result cannot disturb holds after an instruction if it holds before the
instruction and after its effect. -/
theorem Ends.elim {P : State → Prop} {i : Instr} {s t : State} (h : Ends i s t)
    (frame : ∀ (u : State) pc fault result, P u → P { u with pc := pc, fault := fault, result := result })
    (before : P s) (effect : ∀ u, Did i s u → P u) : P t := by
  rcases h with ⟨f, rfl⟩ | ⟨_, _, v, _, rfl⟩ | ⟨u, target, did, hgoto⟩
  · exact frame s s.pc (some f) s.result before
  · exact frame s s.pc s.fault (some v) before
  · rw [State.goto_frame hgoto]
    exact frame u t.pc t.fault u.result (effect u did)

/-! ### Data memory -/

/-- What an instruction can leave in data memory (R34): what was there, an admitted write of a store or of an atomic
operation, or what a helper wrote to admitted addresses. -/
inductive MemEffect (i : Instr) (s : State) : Memory → Prop where
  | same : MemEffect i s s.mem
  | wrote (acc : Access) (ea : Word) (n : Nat) (v : Word) : i.isStore = true → s.denied acc ea n = none →
      MemEffect i s (s.memWrite ea n v).mem
  | helped (cells : List Host.Cell) : (∃ id, i = .callHelper id ∨ i = .callBtf id) →
      MemEffect i s (Memory.storeCells s.mem (admittedCells s cells))

/-- The draws of an atomic operation's load leave no trace in the memory it writes. -/
theorem MemEffect.updated {i : Instr} {s : State} {ea : Word} {n : Nat} (a k : Nat) (v : Word) (hs : i.isStore = true)
    (hd : s.denied .update ea n = none) : MemEffect i s ((s.afterLoad a k).memWrite ea n v).mem := by
  simpa using MemEffect.wrote .update ea n v hs hd

theorem Did.memEffect {i : Instr} {s u : State} (h : Did i s u) : MemEffect i s u.mem := by
  cases h with
  | jumped | wrote | called | returned => exact .same
  | loaded | compared => simpa using MemEffect.same
  | stored ea n v hs _ hd => exact .wrote _ ea n v hs hd
  | updated _ _ _ hs _ hd | fetched _ _ _ _ _ hs _ hd | exchanged _ _ _ _ hs _ hd => exact .updated _ _ _ hs hd
  | helped r0 cells hi => exact .helped cells hi

theorem exec_memEffect {i : Instr} {s t : State} (h : exec i s = .next t) : MemEffect i s t.mem :=
  (exec_cases h).elim (P := fun x => MemEffect i s x.mem) (fun _ _ _ _ hu => hu) .same fun _ did => did.memEffect

/-- An admitted address is one of the machine's 2^64. -/
theorem State.lt_of_admits {s : State} {a : Nat} (h : s.admits a = true) : a < 2 ^ 64 := by
  obtain ⟨r, _, hr⟩ := List.any_eq_true.1 h
  simp only [Region.covers, Bool.and_eq_true, decide_eq_true_eq] at hr
  omega

theorem mem_admittedCells {s : State} {cells : List Host.Cell} {c : Host.Cell} (h : c ∈ admittedCells s cells) :
    s.admits c.1 = true := (List.mem_filter.1 h).2

/-- Every byte of an admitted access is admitted (R231). -/
theorem State.admits_of_not_denied {s : State} {acc : Access} {ea : Word} {n a : Nat} (h : s.denied acc ea n = none)
    (hlo : ea.toNat ≤ a) (hhi : a < ea.toNat + n) : s.admits a = true := by
  obtain ⟨⟨r, hr, h1, h2, h3, _⟩, _⟩ := (State.denied_none_iff s acc ea n).1 h
  refine List.any_eq_true.2 ⟨r, hr, ?_⟩
  simp only [Region.covers, Bool.and_eq_true, decide_eq_true_eq]
  omega

theorem MemEffect.wf {i : Instr} {s : State} {m : Memory} (h : MemEffect i s m) (hs : Memory.wf s.mem = true) :
    Memory.wf m = true := by
  cases h with
  | same => exact hs
  | wrote acc ea n v _ hd => exact Memory.storeBytes_wf hs (by simpa using State.denied_none_bound hd)
  | helped cells _ => exact Memory.storeCells_wf hs fun c hc => State.lt_of_admits (mem_admittedCells hc)

/-- Outside the admitted ranges memory holds what it held (R48). -/
theorem MemEffect.lookup_not_admitted {i : Instr} {s : State} {m : Memory} {a : Nat} (h : MemEffect i s m)
    (ha : s.admits a = false) : Memory.lookup m a = Memory.lookup s.mem a := by
  cases h with
  | same => rfl
  | wrote acc ea n v _ hd =>
    have outside : ¬ (ea.toNat ≤ a ∧ a < ea.toNat + n) := fun ⟨hlo, hhi⟩ => by
      simp [State.admits_of_not_denied hd hlo hhi] at ha
    exact Memory.lookup_storeBytes_outside _ _ _ _ (by simp only [hostOrder_length, bytesOf_length]; omega)
  | helped cells _ =>
    refine Memory.lookup_storeCells_outside _ _ _ fun c hc hca => ?_
    simp [← hca, mem_admittedCells hc] at ha

theorem MemEffect.eq_of_not_store {i : Instr} {s : State} {m : Memory} (h : MemEffect i s m) (hs : i.isStore = false)
    (hc : ∀ id, i ≠ .callHelper id) (hb : ∀ id, i ≠ .callBtf id) : m = s.mem := by
  cases h with
  | same => rfl
  | wrote _ _ _ _ hst _ => simp [hs] at hst
  | helped _ hi =>
    obtain ⟨id, rfl | rfl⟩ := hi
    · exact absurd rfl (hc id)
    · exact absurd rfl (hb id)

/-- A byte reads as what memory lists at its address, and as the same launch byte where it lists nothing (R36, R48). -/
theorem State.byteAt_congr {s t : State} {a : Nat} (h : Memory.lookup t.mem a = Memory.lookup s.mem a) :
    t.byteAt a = s.byteAt a := by
  unfold State.byteAt; rw [h]

/-! ### The call stack -/

/-- What an instruction can leave on the call stack (R32): what was there, one frame more below `MAX_CALL_DEPTH`, or one
frame less. -/
inductive StackEffect (i : Instr) (s : State) : List Frame → Prop where
  | same : StackEffect i s s.stack
  | pushed (imm : Imm) (fp : Word) : i = .callLocal imm → s.stack.length ≠ s.params.maxCallDepth →
      StackEffect i s (s.frame fp :: s.stack)
  | popped (f : Frame) (rest : List Frame) : i = .exit → s.stack = f :: rest → StackEffect i s rest

theorem Did.stackEffect {i : Instr} {s u : State} (h : Did i s u) : StackEffect i s u.stack := by
  cases h with
  | called imm fp hi _ _ hdepth => exact .pushed imm fp hi hdepth
  | returned f rest hi hstack => exact .popped f rest hi hstack
  | jumped | wrote | stored | helped => exact .same
  | loaded | updated | fetched | exchanged | compared => simpa using StackEffect.same

theorem exec_stackEffect {i : Instr} {s t : State} (h : exec i s = .next t) : StackEffect i s t.stack :=
  (exec_cases h).elim (P := fun x => StackEffect i s x.stack) (fun _ _ _ _ hu => hu) .same
    fun _ did => did.stackEffect

theorem StackEffect.length_le {i : Instr} {s : State} {l : List Frame} (h : StackEffect i s l)
    (hs : s.stack.length ≤ s.params.maxCallDepth) : l.length ≤ s.params.maxCallDepth := by
  cases h with
  | same => exact hs
  | pushed imm fp _ hdepth => rw [List.length_cons]; omega
  | popped f rest _ hstack => rw [hstack, List.length_cons] at hs; omega

/-- Settles O57: the call stack after an instruction is one of the three of `StackEffect`. -/
theorem onlyCallLocalAndExitChangeTheCallStack : Obligations.OnlyCallLocalAndExitChangeTheCallStack := by
  intro i s t h hne
  generalize hl : t.stack = l at hne
  cases hl ▸ exec_stackEffect h with
  | same => exact absurd rfl hne
  | pushed imm fp hi _ => exact .inl ⟨imm, s.frame fp, hi, rfl, rfl⟩
  | popped f rest hi hstack => exact .inr ⟨hi, f, hstack⟩

/-- Settles O58: memory after an instruction is one of the three of `MemEffect`. -/
theorem memoryChangesOnlyWhereAdmitted : Obligations.MemoryChangesOnlyWhereAdmitted := by
  intro i s t h
  exact ⟨(exec_memEffect h).eq_of_not_store,
    fun a ha => State.byteAt_congr ((exec_memEffect h).lookup_not_admitted ha)⟩

/-! ### The register file -/

theorem Regs.set_r10 (g : Regs) {r : Reg} (v : RegVal) (h : r ≠ .r10) : (g.set r v).r10 = g.r10 :=
  Regs.get_set_other g v h.symm

/-- A well-formed instruction does not write R10 through a register field (R24, R84). -/
theorem Instr.wellFormed_fieldWrite {i : Instr} {r : Reg} (h : i.wellFormed = true) (hw : i.fieldWrite = some r) :
    r ≠ .r10 := by
  rintro rfl
  simp [Instr.wellFormed, hw] at h

/-- R10 after the effect of a well-formed instruction that neither enters nor leaves a function. -/
theorem Did.r10 {i : Instr} {s u : State} (h : Did i s u) (hwf : i.wellFormed = true)
    (hc : ∀ imm, i ≠ .callLocal imm) (he : i ≠ .exit) : u.regs.r10 = s.regs.r10 := by
  cases h with
  | jumped | stored | helped => rfl
  | wrote r v hw => exact Regs.set_r10 _ _ (Instr.wellFormed_fieldWrite hwf hw)
  | loaded a n r v hw | fetched ea n v r old _ hw =>
    simpa using Regs.set_r10 _ _ (Instr.wellFormed_fieldWrite hwf hw)
  | updated => simp
  | exchanged | compared => simpa using Regs.set_r10 _ _ (by decide)
  | called imm fp hi => exact absurd hi (hc imm)
  | returned f rest hi => exact absurd hi he

/-- Settles O56: every other effect writes a register field, which is not R10, or R0 to R5. -/
theorem onlyCallLocalAndExitChangeR10 : Obligations.OnlyCallLocalAndExitChangeR10 := by
  intro i s t hwf h hne
  by_contra hno
  obtain ⟨hc, he⟩ := not_or.1 hno
  exact hne <| (exec_cases h).elim (P := fun x => x.regs.r10 = s.regs.r10) (fun _ _ _ _ hu => hu) rfl
    fun u did => did.r10 hwf (fun imm hi => hc ⟨imm, hi⟩) he

/-! ### Arithmetic -/

/-- No arithmetic instruction is a jump or a store. -/
theorem Instr.isArith_disjoint (i : Instr) : (i.isArith && (i.isJump || i.isStore)) = false := by cases i <;> rfl

/-- The one effect of an arithmetic instruction: it writes its destination (R102). -/
theorem Did.wrote_of_isArith {i : Instr} {s u : State} (h : Did i s u) (ha : i.isArith = true) :
    ∃ r v, i.fieldWrite = some r ∧ u = s.setReg r v := by
  have hdisj := Instr.isArith_disjoint i
  simp only [ha, Bool.true_and, Bool.or_eq_false_iff] at hdisj
  obtain ⟨hjump, hstore⟩ := hdisj
  cases h with
  | wrote r v hw => exact ⟨r, v, hw, rfl⟩
  | jumped hj => simp [hjump] at hj
  | loaded _ _ _ _ _ _ hna => simp [ha] at hna
  | stored _ _ _ hs | updated _ _ _ hs | fetched _ _ _ _ _ hs | exchanged _ _ _ _ hs | compared _ _ _ hs =>
    simp [hstore] at hs
  | called _ _ hi | returned _ _ hi => subst hi; cases ha
  | helped _ _ hi => obtain ⟨_, rfl | rfl⟩ := hi <;> cases ha

/-- What an arithmetic instruction changes: `pc`, the fault record and its destination (R102). -/
def ArithFrame (i : Instr) (s t : State) : Prop :=
  t = { s with pc := t.pc, regs := t.regs, fault := t.fault } ∧
    ∀ r, i.fieldWrite ≠ some r → t.regs.get r = s.regs.get r

theorem exec_arithFrame {i : Instr} {s t : State} (ha : i.isArith = true) (h : exec i s = .next t) :
    ArithFrame i s t := by
  rcases exec_cases h with ⟨f, rfl⟩ | ⟨rfl, _⟩ | ⟨u, target, did, hgoto⟩
  · exact ⟨rfl, fun _ _ => rfl⟩
  · cases ha
  · obtain ⟨r, v, hw, rfl⟩ := did.wrote_of_isArith ha
    rw [State.goto_frame hgoto]
    refine ⟨rfl, fun q hq => Regs.get_set_other _ _ ?_⟩
    rintro rfl
    exact hq hw

/-- Settles O27: the one effect of an arithmetic instruction is the write of its destination. -/
theorem arithmeticFrame : Obligations.ArithmeticFrame := by
  intro i s t ha h
  obtain ⟨hframe, hregs⟩ := exec_arithFrame ha h
  exact ⟨hregs, hframe, fun a => State.byteAt_congr (by rw [hframe])⟩

end Sys2Proof.Machine
end

section
/-! PROOFS. The invariants of every step (O48, O50), the reading of the program into halves (O13), and the step itself
(O14, O16). -/

namespace Sys2Proof.Machine

/-! ### Stopped and running states -/

/-- A step exists exactly where no fault is recorded and the run is not over (R35, R296). -/
theorem State.halted_none_iff (s : State) : s.halted = none ↔ s.Running := by
  unfold State.halted State.Running
  cases s.fault <;> cases s.result <;> simp

theorem State.running_of_step {s t : State} (h : step s = .next t) : s.Running :=
  (State.halted_none_iff s).1 (step_cases h).1

/-- Settles O16: `halted` names the reason, and `step` answers it. -/
theorem stoppedRunHasNoStep : Obligations.StoppedRunHasNoStep := by
  refine ⟨fun s f hf => ?_, fun s v hf hv => ?_⟩
  · have hhalt : s.halted = some (.runFaulted f) := by simp [State.halted, hf]
    simp [step, hhalt]
  · have hhalt : s.halted = some .runEnded := by simp [State.halted, hf, hv]
    simp [step, hhalt]

/-- On the first half of an instruction, fetching decodes the slots from `pc` on. -/
theorem State.fetch_of_pcInv {s : State} (h : s.PcInv) :
    s.fetch = fetchFrom s.params s.pc (s.prog.drop s.pc) := by
  have hvalid : s.validSlot s.pc = true := ((State.goto_check_iff s s.pc).2 h).2
  simp [State.fetch, hvalid]

/-- Slots that decode are fetched as the instruction they hold. -/
theorem fetchFrom_of_decode {p : Params} {pc : Nat} {slots rest : List Slot} {i : Instr}
    (h : decode p slots = .ok (i, rest)) : fetchFrom p pc slots = .run i := by
  cases slots with
  | nil => cases h
  | cons x more => simp [fetchFrom, h]

/-- Settles O14: the state is not halted, `pc` is a valid slot, and what is fetched is what decodes there. -/
theorem stepRunsDecodedInstruction : Obligations.StepRunsDecodedInstruction := by
  intro s i rest hrun hpc hdec
  simp [step, (State.halted_none_iff s).2 hrun, State.fetch_of_pcInv hpc, fetchFrom_of_decode hdec]

/-! ### The invariant of a run -/

/-- An instruction executed in a running state does not both fault and end the run. -/
theorem Ends.fault_or_result {i : Instr} {s t : State} (h : Ends i s t) (hs : s.Running) :
    t.fault = none ∨ t.result = none := by
  obtain ⟨hfault, hresult⟩ := hs
  rcases h with ⟨f, rfl⟩ | ⟨_, _, v, _, rfl⟩ | ⟨u, target, did, hgoto⟩
  · exact .inr hresult
  · exact .inl hfault
  · rw [State.goto_frame hgoto]
    exact .inr (did.result.trans hresult)

/-- Settles O48: memory, call stack and the pair of fault and result are three invariants, each kept by whatever an
instruction can do. -/
theorem everyStepKeepsInv : Obligations.EveryStepKeepsInv := by
  rintro s t ⟨hmem, hstack, _⟩ h
  have hrun := State.running_of_step h
  obtain ⟨_, ⟨i, _, hexec⟩ | ⟨f, _, rfl⟩⟩ := step_cases h
  · refine ⟨(exec_memEffect hexec).wf hmem, ?_, (exec_cases hexec).fault_or_result hrun⟩
    rw [(exec_cases hexec).prog_params.2]
    exact (exec_stackEffect hexec).length_le hstack
  · exact ⟨hmem, hstack, .inr hrun.2⟩

/-! ### `pc` -/

/-- Where `pc` may stand depends on the program text alone. -/
theorem State.lands_congr {s u : State} {t : Int} (h : u.prog = s.prog) : u.Lands t ↔ s.Lands t := by
  unfold State.Lands; rw [h]

/-- Going to a slot moves `pc` to a first half of the program or leaves it where it was (R163, R190). -/
theorem State.goto_pcInv {s t : State} {target : Int} (h : s.goto target = .next t) (hs : s.PcInv) : t.PcInv := by
  rcases State.goto_cases h with ⟨hland, rfl⟩ | ⟨_, rfl⟩
  · have hpc : ((target.toNat : Nat) : Int) = target := Int.toNat_of_nonneg hland.1
    show s.Lands ((target.toNat : Nat) : Int)
    rwa [hpc]
  · exact hs

/-- However an instruction ends, `pc` is on the first half of an instruction if it was before. -/
theorem Ends.pcInv {i : Instr} {s t : State} (h : Ends i s t) (hs : s.PcInv) : t.PcInv := by
  rcases h with ⟨f, rfl⟩ | ⟨_, _, v, _, rfl⟩ | ⟨u, target, did, hgoto⟩
  · exact hs
  · exact hs
  · refine State.goto_pcInv hgoto ?_
    unfold State.PcInv
    rwa [did.pc, State.lands_congr did.prog]

/-- Settles O50: `pc` moves only through `goto`, which lets it nowhere else. -/
theorem pcStaysOnAFirstHalf : Obligations.PcStaysOnAFirstHalf := by
  intro s t hs h
  obtain ⟨_, ⟨i, _, hexec⟩ | ⟨f, _, rfl⟩⟩ := step_cases h
  · exact (exec_cases hexec).pcInv hs
  · exact hs

/-! ### First and second halves -/

theorem secondHalfFrom_zero {half : Bool} {prog : List Slot} (h : prog ≠ []) : secondHalfFrom half prog 0 = half := by
  cases prog with
  | nil => exact absurd rfl h
  | cons => rfl

/-- Reading on from any slot, slot `t + 1` is a second half exactly where slot `t` is an extended first half. -/
theorem secondHalfFrom_succ {half : Bool} {prog : List Slot} {t : Nat} {x : Slot} (hx : prog[t]? = some x)
    (ht : t + 1 < prog.length) :
    secondHalfFrom half prog (t + 1) = (!secondHalfFrom half prog t && x.isExtended) := by
  induction prog generalizing half t with
  | nil => cases hx
  | cons y rest ih =>
    rw [List.length_cons, Nat.add_lt_add_iff_right] at ht
    cases t with
    | zero =>
      obtain rfl : y = x := by simpa using hx
      exact secondHalfFrom_zero (List.ne_nil_of_length_pos ht)
    | succ t => exact ih (by simpa using hx) ht

theorem isSecondHalf_zero (prog : List Slot) : isSecondHalf prog 0 = false := by cases prog <;> rfl

/-- Settles O13, from the reading of the slots front to back. -/
theorem secondHalvesFollowExtendedFirstHalves : Obligations.SecondHalvesFollowExtendedFirstHalves := by
  refine fun prog => ⟨isSecondHalf_zero prog, fun t x hx ht => ?_⟩
  unfold isSecondHalf
  rw [secondHalfFrom_succ hx ht]
  simp [Slot.isExtended]

end Sys2Proof.Machine
end

section
/-! PROOFS. The states in which runs start: a launched program's entry state (O53, O49) and the reset state (O54). -/

namespace Sys2Proof.Machine

theorem launch_eq_entry {p : Params} {prog : List Slot} {regs : List (Reg × Word)} {cells : List Host.Cell} {s : State}
    (h : State.launch p prog regs cells = .next s) : s = State.entry p prog regs cells := by
  unfold State.launch at h
  split at h
  · cases h
  · cases h; rfl

theorem Regs.get_blank (r : Reg) : Regs.blank.get r = .unwritten := by cases r <;> rfl

/-- A register that the host does not name is unwritten at entry (R36). -/
theorem entryRegs_get_unnamed {regs : List (Reg × Word)} {r : Reg} (h : ∀ v, (r, v) ∉ regs) :
    (entryRegs regs).get r = .unwritten := by
  induction regs with
  | nil => exact Regs.get_blank r
  | cons c rest ih =>
    obtain ⟨q, v⟩ := c
    have hne : r ≠ q := by rintro rfl; exact h v (by simp)
    rw [entryRegs, Regs.get_set_other _ _ hne]
    exact ih fun w hw => h w (by simp [hw])

/-- Of the values the host names for a register the first one stands (log entry 5). -/
theorem entryRegs_get_first {pre post : List (Reg × Word)} {r : Reg} {v : Word} (h : ∀ w, (r, w) ∉ pre) :
    (entryRegs (pre ++ (r, v) :: post)).get r = .written v := by
  induction pre with
  | nil => exact Regs.get_set_same _ _ _
  | cons c rest ih =>
    obtain ⟨q, w⟩ := c
    have hne : r ≠ q := by rintro rfl; exact h w (by simp)
    rw [List.cons_append, entryRegs, Regs.get_set_other _ _ hne]
    exact ih fun x hx => h x (by simp [hx])

theorem Memory.storeCells_append (m : Memory) (cells more : List Host.Cell) :
    Memory.storeCells m (cells ++ more) = Memory.storeCells (Memory.storeCells m cells) more := by
  induction cells generalizing m with
  | nil => rfl
  | cons c rest ih => exact ih _

/-- Of several bytes stored at an address the last one stands. -/
theorem Memory.lookup_storeCells_last (m : Memory) (pre : List Host.Cell) (a : Nat) (v : Byte)
    {post : List Host.Cell} (h : ∀ c ∈ post, c.1 ≠ a) :
    Memory.lookup (Memory.storeCells m (pre ++ (a, v) :: post)) a = some v := by
  rw [Memory.storeCells_append, Memory.storeCells, Memory.lookup_storeCells_outside _ _ _ h,
    Memory.lookup_store_same]

theorem entryMem_wf (cells : List Host.Cell) : Memory.wf (entryMem cells) = true :=
  Memory.storeCells_wf rfl fun c hc => by simpa using (List.mem_filter.1 hc).2

/-- Of the bytes the host sets at an address the last one stands (log entry 5). -/
theorem entryMem_lookup_last {pre post : List Host.Cell} {a : Nat} {v : Byte} (ha : a < 2 ^ 64)
    (h : ∀ w, (a, w) ∉ post) : Memory.lookup (entryMem (pre ++ (a, v) :: post)) a = some v := by
  unfold entryMem
  rw [List.filter_append, List.filter_cons_of_pos (by simpa using ha)]
  refine Memory.lookup_storeCells_last _ _ _ _ fun c hc hca => ?_
  exact h c.2 (hca ▸ (List.mem_filter.1 hc).1)

/-- The first slot of a program is the first half of an instruction. -/
theorem entry_pcInv (p : Params) {prog : List Slot} (regs : List (Reg × Word)) (cells : List Host.Cell)
    (h : prog ≠ []) : (State.entry p prog regs cells).PcInv :=
  ⟨le_rfl, Int.ofNat_lt.2 (List.length_pos_of_ne_nil h), isSecondHalf_zero prog⟩

theorem State.byteAt_of_lookup {s : State} {a : Nat} {v : Byte} (h : Memory.lookup s.mem a = some v) :
    s.byteAt a = v := by
  simp [State.byteAt, h]

/-- Settles O53: a launch that is not refused answers `State.entry`, whose registers and memory are read back above. -/
theorem launchGivesTheEntryState : Obligations.LaunchGivesTheEntryState := by
  intro p prog regs cells s h
  obtain rfl := launch_eq_entry h
  refine ⟨rfl, rfl, rfl, rfl, rfl, rfl, fun r hr => entryRegs_get_unnamed hr, ?_, ?_, entry_pcInv p regs cells⟩
  · rintro pre r v post rfl hr
    exact entryRegs_get_first hr
  · rintro pre a v post rfl ha hpost
    exact State.byteAt_of_lookup (entryMem_lookup_last ha hpost)

/-- Settles O49: at entry the call stack is empty, nothing is recorded, and the launch contents are in
canonical form. -/
theorem invHoldsAtStart : Obligations.InvHoldsAtStart := by
  refine ⟨⟨rfl, Nat.zero_le _, .inl rfl⟩, fun p prog regs cells s h => ?_⟩
  obtain rfl := launch_eq_entry h
  exact ⟨entryMem_wf cells, Nat.zero_le _, .inl rfl⟩

/-- Exactly R1 and R10 are written at reset (R36, R290). -/
theorem reset_written_iff (r : Reg) : State.reset.Written r ↔ r = .r1 ∨ r = .r10 := by
  cases r
  case r1 | r10 => exact ⟨fun _ => by decide, fun _ => ⟨_, rfl⟩⟩
  all_goals exact ⟨fun ⟨_, hv⟩ => (nomatch hv), fun h => absurd h (by decide)⟩

/-- Settles O54: the two values are those of `Regs.entry`. -/
theorem resetIsAnEntryState : Obligations.ResetIsAnEntryState :=
  ⟨rfl, rfl, rfl, rfl, rfl, reset_written_iff, 0x1000, 0x2000, rfl⟩

end Sys2Proof.Machine
end

section
/-! PROOFS. Every instruction reads its registers first, in the order of `Instr.reads` (O26). -/

namespace Sys2Proof.Machine

/-- Executing the instruction is reading its registers, in this order, and going on with their values (R26, R267). -/
def ReadsFirst (i : Instr) (s : State) : Prop := ∃ k, exec i s = s.withRegs i.reads k

theorem ReadsFirst.none {i : Instr} {s : State} (hr : i.reads = []) : ReadsFirst i s :=
  ⟨fun _ => exec i s, by rw [hr]; rfl⟩

theorem ReadsFirst.one {i : Instr} {s : State} {a : Reg} {k : Word → Out} (hr : i.reads = [a])
    (h : exec i s = s.withReg a k) : ReadsFirst i s :=
  ⟨fun vs => k (vs.getD 0 0), by rw [hr, h]; rfl⟩

theorem ReadsFirst.two {i : Instr} {s : State} {a b : Reg} {k : Word → Word → Out} (hr : i.reads = [a, b])
    (h : exec i s = s.withReg a fun v => s.withReg b (k v)) : ReadsFirst i s :=
  ⟨fun vs => k (vs.getD 0 0) (vs.getD 1 0), by rw [hr, h]; rfl⟩

theorem ReadsFirst.three {i : Instr} {s : State} {a b c : Reg} {k : Word → Word → Word → Out}
    (hr : i.reads = [a, b, c])
    (h : exec i s = s.withReg a fun v => s.withReg b fun w => s.withReg c (k v w)) : ReadsFirst i s :=
  ⟨fun vs => k (vs.getD 0 0) (vs.getD 1 0) (vs.getD 2 0), by rw [hr, h]; rfl⟩

theorem exec_readsFirst (i : Instr) (s : State) : ReadsFirst i s := by
  cases i
  case mov64K | mov32K | movsx64K8 | movsx64K16 | movsx64K32 | movsx32K8 | movsx32K16 | movsx32K32 | ja | ja32
    | callHelper | callBtf | lddw | lddwSubtype1 | lddwSubtype2 | lddwSubtype3 | lddwSubtype4 | lddwSubtype5
    | lddwSubtype6 | ldabsw | ldabsh | ldabsb | ldindw | ldindh | ldindb => exact .none rfl
  case atomic32Cmpxchg | atomic64Cmpxchg => exact .three rfl rfl
  case add64X | add32X | sub64X | sub32X | mul64X | mul32X | div64X | div32X | sdiv64X | sdiv32X | or64X | or32X
    | and64X | and32X | lsh64X | lsh32X | rsh64X | rsh32X | mod64X | mod32X | smod64X | smod32X | xor64X | xor32X
    | arsh64X | arsh32X | jeqX | jeq32X | jgtX | jgt32X | jgeX | jge32X | jsetX | jset32X | jneX | jne32X | jsgtX
    | jsgt32X | jsgeX | jsge32X | jltX | jlt32X | jleX | jle32X | jsltX | jslt32X | jsleX | jsle32X | stxw | stxh
    | stxb | stxdw | atomic32Add | atomic32Or | atomic32And | atomic32Xor | atomic32FetchAdd | atomic32FetchOr
    | atomic32FetchAnd | atomic32FetchXor | atomic32Xchg | atomic64Add | atomic64Or | atomic64And | atomic64Xor
    | atomic64FetchAdd | atomic64FetchOr | atomic64FetchAnd | atomic64FetchXor | atomic64Xchg => exact .two rfl rfl
  all_goals exact .one rfl rfl

/-- Reading registers stops at the first unwritten one (R26, R267). -/
theorem State.withRegs_first_unwritten {s : State} {pre : List Reg} {r : Reg} (post : List Reg) (k : List Word → Out)
    (hpre : ∀ q ∈ pre, s.Written q) (hr : s.regs.get r = .unwritten) :
    s.withRegs (pre ++ r :: post) k = .next (s.faulted (.uninitRegister r s.pc)) := by
  induction pre generalizing k with
  | nil => exact State.withReg_unwritten _ hr
  | cons q rest ih =>
    obtain ⟨v, hv⟩ := hpre q (by simp)
    rw [List.cons_append, State.withRegs, State.withReg_written _ hv]
    exact ih _ fun p hp => hpre p (by simp [hp])

/-- Settles O26: whatever else the instruction does, it reads its registers first. -/
theorem firstUnwrittenReadFaults : Obligations.FirstUnwrittenReadFaults := by
  intro i s pre r post hreads hpre hr
  obtain ⟨k, hexec⟩ := exec_readsFirst i s
  rw [hexec, hreads, State.withRegs_first_unwritten post k hpre hr]

end Sys2Proof.Machine
end

section
/-! PROOFS. The instructions of class ALU and JMP32 do not read upper halves (O28). -/

namespace Sys2Proof.Machine

/-- Class ALU (END apart) and class JMP32, by the opcode byte (R64, R74, R75). -/
def LowHalfClass (op : BitVec 8) : Prop :=
  (op.extractLsb' 0 3 = 4#3 ∧ op.extractLsb' 4 4 ≠ 13#4) ∨ op.extractLsb' 0 3 = 6#3

/-- What an instruction does with the low halves of the registers it reads and nothing more of their values: it writes
one register and goes on, or it goes to a slot (R101, R162). -/
inductive ReadsLowHalves (i : Instr) : Prop where
  | writes (dst : Reg) (f : List Half → Word) : i.fieldWrite = some dst →
      (∀ s, exec i s = s.withRegs i.reads fun vs => (s.setReg dst (f (vs.map low))).advance 1) → ReadsLowHalves i
  | goes (target : Nat → List Half → Int) : i.fieldWrite = none →
      (∀ s, exec i s = s.withRegs i.reads fun vs => s.goto (target s.pc (vs.map low))) → ReadsLowHalves i

section Shapes

variable {i : Instr} {dst src : Reg} {off : Off} {imm : Imm}

theorem ReadsLowHalves.alu32K {op : Half → Half → Half} (hr : i.reads = [dst]) (hw : i.fieldWrite = some dst)
    (h : ∀ s, exec i s = Machine.alu32K op dst imm s) : ReadsLowHalves i :=
  .writes dst (fun hs => zext (op (hs.getD 0 0) imm)) hw fun s => by rw [hr, h]; rfl

theorem ReadsLowHalves.alu32X {op : Half → Half → Half} (hr : i.reads = [dst, src]) (hw : i.fieldWrite = some dst)
    (h : ∀ s, exec i s = Machine.alu32X op dst src s) : ReadsLowHalves i :=
  .writes dst (fun hs => zext (op (hs.getD 0 0) (hs.getD 1 0))) hw fun s => by rw [hr, h]; rfl

theorem ReadsLowHalves.mov32K {f : Half → Half} (hr : i.reads = []) (hw : i.fieldWrite = some dst)
    (h : ∀ s, exec i s = Machine.mov32K f dst imm s) : ReadsLowHalves i :=
  .writes dst (fun _ => zext (f imm)) hw fun s => by rw [hr, h]; rfl

theorem ReadsLowHalves.mov32X {f : Half → Half} (hr : i.reads = [src]) (hw : i.fieldWrite = some dst)
    (h : ∀ s, exec i s = Machine.mov32X f dst src s) : ReadsLowHalves i :=
  .writes dst (fun hs => zext (f (hs.getD 0 0))) hw fun s => by rw [hr, h]; rfl

theorem ReadsLowHalves.neg32 : ReadsLowHalves (.neg32 dst) :=
  .writes dst (fun hs => zext (0 - hs.getD 0 0)) rfl fun _ => rfl

theorem ReadsLowHalves.ja32 : ReadsLowHalves (.ja32 imm) :=
  .goes (fun pc _ => (pc : Int) + 1 + immDisp imm) rfl fun _ => rfl

theorem ReadsLowHalves.jump32K {c : Half → Half → Bool} (hr : i.reads = [dst]) (hw : i.fieldWrite = none)
    (h : ∀ s, exec i s = Machine.jump32K c dst off imm s) : ReadsLowHalves i :=
  .goes (fun pc hs => if c (hs.getD 0 0) imm then (pc : Int) + 1 + offDisp off else (pc : Int) + 1) hw fun s => by
    rw [hr, h, Machine.jump32K]; simp only [State.branch_eq]; rfl

theorem ReadsLowHalves.jump32X {c : Half → Half → Bool} (hr : i.reads = [dst, src]) (hw : i.fieldWrite = none)
    (h : ∀ s, exec i s = Machine.jump32X c dst src off s) : ReadsLowHalves i :=
  .goes (fun pc hs => if c (hs.getD 0 0) (hs.getD 1 0) then (pc : Int) + 1 + offDisp off else (pc : Int) + 1) hw
    fun s => by rw [hr, h, Machine.jump32X]; simp only [State.branch_eq]; rfl

end Shapes

/-- Every instruction of the two classes is of one of the shapes above; the opcode byte of any other tells its class. -/
theorem readsLowHalves_of_class {i : Instr} (h : LowHalfClass i.fields.opcode) : ReadsLowHalves i := by
  cases i
  case add32K | sub32K | mul32K | div32K | sdiv32K | or32K | and32K | lsh32K | rsh32K | mod32K | smod32K | xor32K
    | arsh32K => exact .alu32K rfl rfl fun _ => rfl
  case add32X | sub32X | mul32X | div32X | sdiv32X | or32X | and32X | lsh32X | rsh32X | mod32X | smod32X | xor32X
    | arsh32X => exact .alu32X rfl rfl fun _ => rfl
  case mov32K | movsx32K8 | movsx32K16 | movsx32K32 => exact .mov32K rfl rfl fun _ => rfl
  case mov32X | movsx32X8 | movsx32X16 | movsx32X32 => exact .mov32X rfl rfl fun _ => rfl
  case neg32 => exact .neg32
  case ja32 => exact .ja32
  case jeq32K | jgt32K | jge32K | jset32K | jne32K | jsgt32K | jsge32K | jlt32K | jle32K | jslt32K | jsle32K =>
    exact .jump32K rfl rfl fun _ => rfl
  case jeq32X | jgt32X | jge32X | jset32X | jne32X | jsgt32X | jsge32X | jlt32X | jle32X | jslt32X | jsle32X =>
    exact .jump32X rfl rfl fun _ => rfl
  all_goals simp [LowHalfClass, Instr.fields, kFields, xFields, mFields, lddwFields, legacyFields] at h

/-- Two register files that agree in which registers are written and in every low half (R22). -/
def Regs.SameLow (g k : Regs) : Prop :=
  ∀ r, (g.get r = .unwritten ∧ k.get r = .unwritten) ∨
    ∃ v w : Word, g.get r = .written v ∧ k.get r = .written w ∧ low v = low w

/-- Reading registers of two such files raises the same fault, or goes on with values of the same low halves: what holds
of the states after either holds of the states after the reading. -/
theorem State.withRegs_sameLow {R : State → State → Prop} {s t u : State} {g : Regs} {l : List Reg}
    {k m : List Word → Out} (hg : s.regs.SameLow g) (fault : ∀ f, R (s.faulted f) ({ s with regs := g }.faulted f))
    (values : ∀ vs ws, vs.map low = ws.map low → k vs = .next t → m ws = .next u → R t u)
    (ht : s.withRegs l k = .next t) (hu : { s with regs := g }.withRegs l m = .next u) : R t u := by
  induction l generalizing k m with
  | nil => exact values [] [] rfl ht hu
  | cons r rest ih =>
    rw [State.withRegs] at ht hu
    rcases hg r with ⟨hv, hw⟩ | ⟨v, w, hv, hw, hlow⟩
    · rw [State.withReg_unwritten _ hv] at ht
      rw [State.withReg_unwritten _ hw] at hu
      cases ht; cases hu
      exact fault _
    · rw [State.withReg_written _ hv] at ht
      rw [State.withReg_written _ hw] at hu
      exact ih (fun vs ws hlows => values (v :: vs) (w :: ws) (by simp [hlow, hlows])) ht hu

/-- Two states that differ in their registers go to the same slot or raise the same fault. -/
theorem State.goto_withRegs {s t u : State} {g : Regs} {target : Int} (ht : s.goto target = .next t)
    (hu : { s with regs := g }.goto target = .next u) :
    u.pc = t.pc ∧ u.fault = t.fault ∧ t.regs = s.regs ∧ u.regs = g := by
  by_cases hland : s.Lands target
  · rw [State.goto_of_lands hland] at ht
    rw [State.goto_of_lands (s := { s with regs := g }) hland] at hu
    cases ht; cases hu
    exact ⟨rfl, rfl, rfl, rfl⟩
  · rw [State.goto_of_not_lands hland] at ht
    rw [State.goto_of_not_lands (s := { s with regs := g }) hland] at hu
    cases ht; cases hu
    exact ⟨rfl, rfl, rfl, rfl⟩

/-- The same destination, slot and fault (O28). -/
def SameLowResult (i : Instr) (t u : State) : Prop :=
  u.pc = t.pc ∧ u.fault = t.fault ∧ (t.fault = none → ∀ r, i.fieldWrite = some r → u.regs.get r = t.regs.get r)

theorem SameLowResult.of_fault (i : Instr) (s : State) (g : Regs) (f : FaultRecord) :
    SameLowResult i (s.faulted f) ({ s with regs := g }.faulted f) :=
  ⟨rfl, rfl, fun h => nomatch h⟩

theorem ReadsLowHalves.sameLowResult {i : Instr} {s t u : State} {g : Regs} (h : ReadsLowHalves i)
    (hg : s.regs.SameLow g) (ht : exec i s = .next t) (hu : exec i { s with regs := g } = .next u) :
    SameLowResult i t u := by
  cases h with
  | writes dst f hw hexec =>
    rw [hexec] at ht hu
    refine State.withRegs_sameLow hg (.of_fault i s g) (fun vs ws hlow ht hu => ?_) ht hu
    rw [← hlow] at hu
    obtain ⟨hpc, hfault, htregs, huregs⟩ := State.goto_withRegs (s := s.setReg dst _) ht hu
    refine ⟨hpc, hfault, fun _ r hr => ?_⟩
    obtain rfl : dst = r := Option.some.inj (hw.symm.trans hr)
    rw [htregs, huregs, State.setReg_regs, Regs.get_set_same, Regs.get_set_same]
  | goes target hw hexec =>
    rw [hexec] at ht hu
    refine State.withRegs_sameLow hg (.of_fault i s g) (fun vs ws hlow ht hu => ?_) ht hu
    rw [← hlow] at hu
    obtain ⟨hpc, hfault, _⟩ := State.goto_withRegs ht hu
    exact ⟨hpc, hfault, fun _ r hr => by simp [hw] at hr⟩

/-- Settles O28: an instruction of the two classes reads its registers first and uses their low halves alone. -/
theorem upperHalvesAreNotRead : Obligations.UpperHalvesAreNotRead := by
  intro i s g t u hclass hg _ ht hu
  exact (readsLowHalves_of_class hclass).sameLowResult hg ht hu

end Sys2Proof.Machine
end

section
/-! PROOFS. Whatever decodes is well-formed and admitted (O4): the decoder's combinators, its forms, its classes. -/

namespace Sys2Proof

/-- Well-formed and admitted by the parameters: what O4 says of a decoded instruction. -/
def Allowed (p : Params) (i : Instr) : Prop := i.wellFormed = true ∧ i.admitted p = true

/-- Whatever this decoding answers is allowed. -/
def Sound (p : Params) (d : Decoded) : Prop := ∀ i, d = .ok i → Allowed p i

/-! ### Instructions -/

theorem Instr.wellFormed_of_write {i : Instr} {r : Reg} (hw : i.fieldWrite = some r) (hr : r ≠ .r10) :
    i.wellFormed = true := by
  simpa [Instr.wellFormed, hw] using hr

theorem Instr.wellFormed_of_no_write {i : Instr} (hw : i.fieldWrite = none) : i.wellFormed = true := by
  simp [Instr.wellFormed, hw]

/-- An instruction is admitted if the profile has its class and the strictness its form (R88, D13). -/
theorem Instr.admitted_of {p : Params} {i : Instr} (hl : p.ldstProfile ≠ .refuse ∨ i.isLoadStore = false)
    (hx : p.strictMovsx = false ∨ i.isLaxMovsx = false) : i.admitted p = true := by
  rcases hl with hl | hl <;> rcases hx with hx | hx <;> simp [Instr.admitted, hl, hx]

namespace Allowed

variable {p : Params} {i : Instr} {r : Reg}

theorem arith (hw : i.fieldWrite = some r) (hl : i.isLoadStore = false) (hx : i.isLaxMovsx = false) (hr : r ≠ .r10) :
    Allowed p i :=
  ⟨Instr.wellFormed_of_write hw hr, Instr.admitted_of (.inr hl) (.inr hx)⟩

theorem laxMovsx (hs : p.strictMovsx = false) (hw : i.fieldWrite = some r) (hl : i.isLoadStore = false)
    (hr : r ≠ .r10) : Allowed p i :=
  ⟨Instr.wellFormed_of_write hw hr, Instr.admitted_of (.inr hl) (.inl hs)⟩

theorem jump (hw : i.fieldWrite = none) (hl : i.isLoadStore = false) (hx : i.isLaxMovsx = false) : Allowed p i :=
  ⟨Instr.wellFormed_of_no_write hw, Instr.admitted_of (.inr hl) (.inr hx)⟩

theorem load (hp : p.ldstProfile ≠ .refuse) (hw : i.fieldWrite = some r) (hx : i.isLaxMovsx = false) (hr : r ≠ .r10) :
    Allowed p i :=
  ⟨Instr.wellFormed_of_write hw hr, Instr.admitted_of (.inl hp) (.inr hx)⟩

theorem store (hp : p.ldstProfile ≠ .refuse) (hw : i.fieldWrite = none) (hx : i.isLaxMovsx = false) : Allowed p i :=
  ⟨Instr.wellFormed_of_no_write hw, Instr.admitted_of (.inl hp) (.inr hx)⟩

end Allowed

/-- A register field that is written does not name R10 (R24, R84). -/
theorem writtenReg_ne_r10 {n : Nibble} {r : Reg} (h : writtenReg n = .ok r) : r ≠ .r10 := by
  unfold writtenReg at h
  split at h
  · cases h
  · cases h; assumption
  · cases h

namespace Sound

variable {p : Params} {f : Fields} {d d0 d1 d8 d16 d32 d64 : Decoded}

/-! ### Combinators -/

theorem error (e : DecodeError) : Sound p (.error e) := fun _ h => by cases h

theorem ok {i : Instr} (h : Allowed p i) : Sound p (.ok i) := fun _ hi => by cases hi; exact h

theorem map {α : Type} {x : Except DecodeError α} {mk : α → Instr} (h : ∀ a, x = .ok a → Allowed p (mk a)) :
    Sound p (x.map mk) := by
  cases x with
  | error e => exact error e
  | ok a => exact ok (h a rfl)

theorem bind {α : Type} {x : Except DecodeError α} {k : α → Decoded} (h : ∀ a, x = .ok a → Sound p (k a)) :
    Sound p (x.bind k) := by
  cases x with
  | error e => exact error e
  | ok a => exact h a rfl

theorem ite {c : Prop} [Decidable c] (h : c → Sound p d) (h0 : ¬ c → Sound p d0) : Sound p (if c then d else d0) := by
  split
  · exact h ‹_›
  · exact h0 ‹_›

theorem unused {zero : Bool} (h : Sound p d) : Sound p (p.unused zero d) := ite (fun _ => h) fun _ => error _

theorem lax (h : p.strictMovsx = false → Sound p d) : Sound p (p.lax d) :=
  ite (fun _ => error _) fun hs => h (Bool.eq_false_iff.2 hs)

theorem offset0 (h0 : Sound p d0) : Sound p (offset0 f d0) := ite (fun _ => h0) fun _ => error _

theorem offset01 (h0 : Sound p d0) (h1 : Sound p d1) : Sound p (offset01 f d0 d1) :=
  ite (fun _ => h0) fun _ => ite (fun _ => h1) fun _ => error _

theorem offsetMov (h0 : Sound p d0) (h8 : Sound p d8) (h16 : Sound p d16) (h32 : Sound p d32) :
    Sound p (offsetMov f d0 d8 d16 d32) :=
  ite (fun _ => h0) fun _ => ite (fun _ => h8) fun _ => ite (fun _ => h16) fun _ => ite (fun _ => h32) fun _ => error _

theorem swapWidth (h16 : Sound p d16) (h32 : Sound p d32) (h64 : Sound p d64) :
    Sound p (swapWidth f d16 d32 d64) :=
  ite (fun _ => ite (fun _ => h16) fun _ => ite (fun _ => h32) fun _ => ite (fun _ => h64) fun _ => error _)
    fun _ => error _

/-! ### Forms

The hypothesis on `mk` is about one constructor of `Instr`; where it holds by the definitions of the classes, it is
found by `rfl`. -/

theorem kForm {mk : Reg → Imm → Instr}
    (h : ∀ d imm, d ≠ .r10 → Allowed p (mk d imm) := by exact fun _ _ => .arith rfl rfl rfl) :
    Sound p (kForm p f mk) :=
  unused (map fun d hd => h d f.imm (writtenReg_ne_r10 hd))

theorem xForm {mk : Reg → Reg → Instr}
    (h : ∀ d s, d ≠ .r10 → Allowed p (mk d s) := by exact fun _ _ => .arith rfl rfl rfl) :
    Sound p (xForm p f mk) :=
  unused (bind fun d hd => map fun s _ => h d s (writtenReg_ne_r10 hd))

theorem negForm {mk : Reg → Instr} (h : ∀ d, d ≠ .r10 → Allowed p (mk d) := by exact fun _ => .arith rfl rfl rfl) :
    Sound p (negForm p f mk) :=
  unused (map fun d hd => h d (writtenReg_ne_r10 hd))

theorem endForm {mk : Reg → Instr} (h : ∀ d, d ≠ .r10 → Allowed p (mk d) := by exact fun _ => .arith rfl rfl rfl) :
    Sound p (endForm p f mk) :=
  unused (map fun d hd => h d (writtenReg_ne_r10 hd))

/-- The K-form of a MOVSX that `STRICT_MOVSX` reserves (D13). -/
theorem laxK {mk : Reg → Imm → Instr}
    (hw : ∀ d imm, (mk d imm).fieldWrite = some d ∧ (mk d imm).isLoadStore = false := by
      exact fun _ _ => ⟨rfl, rfl⟩) :
    Sound p (p.lax (Sys2Proof.kForm p f mk)) :=
  lax fun hs => kForm fun d imm => .laxMovsx hs (hw d imm).1 (hw d imm).2

theorem jumpKForm {mk : Reg → Nibble → Off → Imm → Instr}
    (h : ∀ d n off imm, Allowed p (mk d n off imm) := by exact fun _ _ _ _ => .jump rfl rfl rfl) :
    Sound p (jumpKForm f mk) :=
  map fun d _ => h d f.src f.off f.imm

theorem jumpXForm {mk : Reg → Reg → Off → Instr}
    (h : ∀ d s off, Allowed p (mk d s off) := by exact fun _ _ _ => .jump rfl rfl rfl) :
    Sound p (jumpXForm p f mk) :=
  unused (bind fun d _ => map fun s _ => h d s f.off)

section LoadStore

variable (hp : p.ldstProfile ≠ .refuse)
include hp

theorem ldxForm {mk : Reg → Reg → Off → Instr}
    (h : ∀ d s off, (mk d s off).fieldWrite = some d ∧ (mk d s off).isLaxMovsx = false := by
      exact fun _ _ _ => ⟨rfl, rfl⟩) :
    Sound p (ldxForm p f mk) :=
  xForm fun d s => .load hp (h d s f.off).1 (h d s f.off).2

theorem stForm {mk : Reg → Off → Imm → Instr}
    (h : ∀ d off imm, (mk d off imm).fieldWrite = none ∧ (mk d off imm).isLaxMovsx = false := by
      exact fun _ _ _ => ⟨rfl, rfl⟩) :
    Sound p (stForm p f mk) :=
  unused (map fun d _ => .store hp (h d f.off f.imm).1 (h d f.off f.imm).2)

theorem stxForm {mk : Reg → Reg → Off → Instr}
    (h : ∀ d s off, (mk d s off).fieldWrite = none ∧ (mk d s off).isLaxMovsx = false := by
      exact fun _ _ _ => ⟨rfl, rfl⟩) :
    Sound p (stxForm p f mk) :=
  unused (bind fun d _ => map fun s _ => .store hp (h d s f.off).1 (h d s f.off).2)

theorem atomicForm {mk : Reg → Reg → Off → Instr}
    (h : ∀ d s off, (mk d s off).fieldWrite = none ∧ (mk d s off).isLaxMovsx = false := by
      exact fun _ _ _ => ⟨rfl, rfl⟩) :
    Sound p (atomicForm f mk) :=
  bind fun d _ => map fun s _ => .store hp (h d s f.off).1 (h d s f.off).2

theorem fetchForm {mk : Reg → Reg → Off → Instr}
    (h : ∀ d s off, (mk d s off).fieldWrite = some s ∧ (mk d s off).isLaxMovsx = false := by
      exact fun _ _ _ => ⟨rfl, rfl⟩) :
    Sound p (fetchForm f mk) :=
  bind fun d _ => map fun s hs => .load hp (h d s f.off).1 (h d s f.off).2 (writtenReg_ne_r10 hs)

end LoadStore

/-! ### Classes, in the order of the decoder's rows -/

theorem decodeAlu : Sound p (decodeAlu p f) := by
  unfold Sys2Proof.decodeAlu
  split
  exacts [
    .offset0 .kForm, .offset0 .xForm,
    .offset0 .kForm, .offset0 .xForm,
    .offset0 .kForm, .offset0 .xForm,
    .offset01 .kForm .kForm, .offset01 .xForm .xForm,
    .offset0 .kForm, .offset0 .xForm,
    .offset0 .kForm, .offset0 .xForm,
    .offset0 .kForm, .offset0 .xForm,
    .offset0 .kForm, .offset0 .xForm,
    .offset0 .negForm, .error _,
    .offset01 .kForm .kForm, .offset01 .xForm .xForm,
    .offset0 .kForm, .offset0 .xForm,
    .offsetMov .kForm .laxK .laxK .laxK,
    .offsetMov .xForm .xForm .xForm (.lax fun hs => .xForm fun _ _ => .laxMovsx hs rfl rfl),
    .offset0 .kForm, .offset0 .xForm,
    .swapWidth .endForm .endForm .endForm, .swapWidth .endForm .endForm .endForm,
    .error _]

theorem decodeAlu64 : Sound p (decodeAlu64 p f) := by
  unfold Sys2Proof.decodeAlu64
  split
  exacts [
    .offset0 .kForm, .offset0 .xForm,
    .offset0 .kForm, .offset0 .xForm,
    .offset0 .kForm, .offset0 .xForm,
    .offset01 .kForm .kForm, .offset01 .xForm .xForm,
    .offset0 .kForm, .offset0 .xForm,
    .offset0 .kForm, .offset0 .xForm,
    .offset0 .kForm, .offset0 .xForm,
    .offset0 .kForm, .offset0 .xForm,
    .offset0 .negForm, .error _,
    .offset01 .kForm .kForm, .offset01 .xForm .xForm,
    .offset0 .kForm, .offset0 .xForm,
    .offsetMov .kForm .laxK .laxK .laxK, .offsetMov .xForm .xForm .xForm .xForm,
    .offset0 .kForm, .offset0 .xForm,
    .swapWidth .endForm .endForm .endForm, .error _,
    .error _]

theorem decodeJa : Sound p (decodeJa p f) := ite (fun _ => unused (ok (.jump rfl rfl rfl))) fun _ => error _

theorem decodeJa32 : Sound p (decodeJa32 p f) := ite (fun _ => unused (ok (.jump rfl rfl rfl))) fun _ => error _

theorem decodeCall : Sound p (decodeCall p f) := by
  unfold Sys2Proof.decodeCall
  split
  exacts [unused (ok (.jump rfl rfl rfl)), unused (ok (.jump rfl rfl rfl)), unused (ok (.jump rfl rfl rfl)), error _]

theorem decodeExit : Sound p (decodeExit p f) := ite (fun _ => unused (ok (.jump rfl rfl rfl))) fun _ => error _

theorem decodeJmp : Sound p (decodeJmp p f) := by
  unfold Sys2Proof.decodeJmp
  split
  exacts [
    .decodeJa, .error _,
    .jumpKForm, .jumpXForm, .jumpKForm, .jumpXForm, .jumpKForm, .jumpXForm, .jumpKForm, .jumpXForm,
    .jumpKForm, .jumpXForm, .jumpKForm, .jumpXForm, .jumpKForm, .jumpXForm,
    .decodeCall, .error _, .decodeExit, .error _,
    .jumpKForm, .jumpXForm, .jumpKForm, .jumpXForm, .jumpKForm, .jumpXForm, .jumpKForm, .jumpXForm,
    .error _]

theorem decodeJmp32 : Sound p (decodeJmp32 p f) := by
  unfold Sys2Proof.decodeJmp32
  split
  exacts [
    .decodeJa32, .error _,
    .jumpKForm, .jumpXForm, .jumpKForm, .jumpXForm, .jumpKForm, .jumpXForm, .jumpKForm, .jumpXForm,
    .jumpKForm, .jumpXForm, .jumpKForm, .jumpXForm, .jumpKForm, .jumpXForm,
    .error _, .error _, .error _, .error _,
    .jumpKForm, .jumpXForm, .jumpKForm, .jumpXForm, .jumpKForm, .jumpXForm, .jumpKForm, .jumpXForm,
    .error _]

section LoadStore

variable (hp : p.ldstProfile ≠ .refuse)
include hp

theorem decodeAtomic32 : Sound p (decodeAtomic32 f) := by
  unfold Sys2Proof.decodeAtomic32
  split
  exacts [
    .atomicForm hp, .atomicForm hp, .atomicForm hp, .atomicForm hp,
    .fetchForm hp, .fetchForm hp, .fetchForm hp, .fetchForm hp, .fetchForm hp,
    .atomicForm hp, .error _]

theorem decodeAtomic64 : Sound p (decodeAtomic64 f) := by
  unfold Sys2Proof.decodeAtomic64
  split
  exacts [
    .atomicForm hp, .atomicForm hp, .atomicForm hp, .atomicForm hp,
    .fetchForm hp, .fetchForm hp, .fetchForm hp, .fetchForm hp, .fetchForm hp,
    .atomicForm hp, .error _]

theorem decodeLdx : Sound p (decodeLdx p f) := by
  unfold Sys2Proof.decodeLdx
  split
  exacts [.ldxForm hp, .ldxForm hp, .ldxForm hp, .ldxForm hp, .ldxForm hp, .ldxForm hp, .ldxForm hp, .error _]

theorem decodeSt : Sound p (decodeSt p f) := by
  unfold Sys2Proof.decodeSt
  split
  exacts [.stForm hp, .stForm hp, .stForm hp, .stForm hp, .error _]

theorem decodeStx : Sound p (decodeStx p f) := by
  unfold Sys2Proof.decodeStx
  split
  exacts [.stxForm hp, .stxForm hp, .stxForm hp, .stxForm hp, .decodeAtomic32 hp, .decodeAtomic64 hp, .error _]

theorem decodeLd : Sound p (decodeLd f) := by
  unfold Sys2Proof.decodeLd
  split
  exacts [
    .ok (.store hp rfl rfl), .ok (.store hp rfl rfl), .ok (.store hp rfl rfl),
    .ok (.store hp rfl rfl), .ok (.store hp rfl rfl), .ok (.store hp rfl rfl), .error _]

theorem lddwOf {subtype : Nibble} {r : Reg} {imm nextImm : Imm} (hr : r ≠ .r10) :
    Sound p (lddwOf subtype r imm nextImm) := by
  unfold Sys2Proof.lddwOf
  split
  exacts [
    .ok (.load hp rfl rfl hr), .ok (.load hp rfl rfl hr), .ok (.load hp rfl rfl hr), .ok (.load hp rfl rfl hr),
    .ok (.load hp rfl rfl hr), .ok (.load hp rfl rfl hr), .ok (.load hp rfl rfl hr), .error _]

theorem decodeExtended {e : Endian} {second : Slot} : Sound p (decodeExtended e f second) :=
  ite (fun _ => ite (fun _ => bind fun _ hd => lddwOf hp (writtenReg_ne_r10 hd)) fun _ => error _) fun _ => error _

end LoadStore

/-- The load and store classes 0 to 3 are decoded only where the profile has them (R88). -/
theorem decodeBasic (hp : (f.opcode.extractLsb' 0 3).toNat < 4 → p.ldstProfile ≠ .refuse) :
    Sound p (decodeBasic p f) := by
  unfold Sys2Proof.decodeBasic
  split
  case h_1 hcls => exact .decodeLd (hp (by omega))
  case h_2 hcls => exact .decodeLdx (hp (by omega))
  case h_3 hcls => exact .decodeSt (hp (by omega))
  case h_4 hcls => exact .decodeStx (hp (by omega))
  exacts [.decodeAlu, .decodeJmp, .decodeJmp32, .decodeAlu64]

end Sound

/-- A decoding that is paired with the slots after it answers what the decoding answers. -/
theorem ok_of_map_pair {d : Decoded} {i : Instr} {rest more : List Slot}
    (h : (d.map fun j => (j, rest)) = .ok (i, more)) : d = .ok i := by
  cases d with
  | error e => cases h
  | ok j => cases h; rfl

/-- Settles O4: every form reads its written field by `writtenReg`, the lax forms of MOVSX stand behind `Params.lax`,
and the load and store classes are decoded only where the profile has them. -/
theorem decodedInstructionIsWellFormed : Obligations.DecodedInstructionIsWellFormed := by
  intro p slots i rest h
  unfold decode at h
  split at h
  · cases h
  · rename_i x more
    dsimp only at h
    split at h
    · cases h
    · rename_i hprofile
      have hp : (((x.fields p.hostEndian).opcode.extractLsb' 0 3).toNat < 4) → p.ldstProfile ≠ .refuse := by
        intro hcls hrefuse
        exact hprofile (by rw [hrefuse, decide_eq_true hcls]; rfl)
      split at h
      · rename_i hext
        have hop : (x.fields p.hostEndian).opcode = 0x18#8 := by simpa [Slot.isExtended] using hext
        split at h
        · cases h
        · exact Sound.decodeExtended (hp (by rw [hop]; decide)) i (ok_of_map_pair h)
      · exact Sound.decodeBasic hp i (ok_of_map_pair h)

end Sys2Proof
end

section
/-! PROOFS. What an access to data memory is admitted for, and why it is denied (O47); the bytes of a value in memory and
the load that reads them back (O44); what a helper call leaves alone (O38). -/

namespace Sys2Proof.Machine

/-! ### The admission test -/

/-- Wholly inside some admitted range (R231). -/
def State.InRegion (s : State) (ea : Word) (n : Nat) : Prop := ∃ r ∈ s.params.regions, insideRange r ea n

/-- Wholly inside some admitted range that gives the permission (R231, D27). -/
def State.Permitted (s : State) (acc : Access) (ea : Word) (n : Nat) : Prop :=
  ∃ r ∈ s.params.regions, insideRange r ea n ∧ Region.permits r acc = true

section Access

variable {s : State} {acc : Access} {ea : Word} {n : Nat}

theorem State.Permitted.inRegion (h : s.Permitted acc ea n) : s.InRegion ea n := by
  obtain ⟨r, hr, hin, _⟩ := h
  exact ⟨r, hr, hin⟩

theorem Region.covers_iff (r : Region) : Region.covers r ea.toNat n = true ↔ insideRange r ea n := by
  simp [Region.covers, insideRange, and_assoc]

theorem State.any_covers_iff : (s.params.regions.any fun r => Region.covers r ea.toNat n) = true ↔ s.InRegion ea n := by
  simp only [List.any_eq_true, Region.covers_iff, State.InRegion]

theorem State.any_permits_iff :
    (s.params.regions.any fun r => Region.covers r ea.toNat n && Region.permits r acc) = true ↔
      s.Permitted acc ea n := by
  simp only [List.any_eq_true, Bool.and_eq_true, Region.covers_iff, State.Permitted]

theorem State.admitted_iff :
    s.Admitted acc ea n ↔ s.Permitted acc ea n ∧ (s.params.allowMisaligned = true ∨ ea.toNat % n = 0) := by
  simp only [State.Admitted, State.Permitted, insideRange, and_assoc]

/-- A reason that holds of an access is the one the admission test gives. -/
theorem State.Denied.denied_eq {reason : MemReason} (h : s.Denied acc ea n reason) :
    s.denied acc ea n = some reason := by
  unfold State.denied
  cases reason with
  | region =>
    have hout := Bool.eq_false_of_not_eq_true (mt State.any_covers_iff.1 h)
    simp [hout]
  | permission =>
    obtain ⟨hin, hnot⟩ := h
    have hno := Bool.eq_false_of_not_eq_true (mt State.any_permits_iff.1 hnot)
    simp [State.any_covers_iff.2 hin, hno]
  | misaligned =>
    obtain ⟨hp, hstrict, hmod⟩ := h
    have hin := State.Permitted.inRegion hp
    simp [State.any_covers_iff.2 hin, State.any_permits_iff.2 hp, hstrict, hmod]

/-- Every access is admitted, or one of the three reasons holds of it (R231, R44). -/
theorem State.admitted_or_denied (s : State) (acc : Access) (ea : Word) (n : Nat) :
    s.Admitted acc ea n ∨ ∃ reason, s.Denied acc ea n reason := by
  by_cases hin : s.InRegion ea n
  · by_cases hp : s.Permitted acc ea n
    · by_cases ha : s.params.allowMisaligned = true ∨ ea.toNat % n = 0
      · exact .inl (State.admitted_iff.2 ⟨hp, ha⟩)
      · obtain ⟨hstrict, hmod⟩ := not_or.1 ha
        exact .inr ⟨.misaligned, hp, Bool.eq_false_of_not_eq_true hstrict, hmod⟩
    · exact .inr ⟨.permission, hin, hp⟩
  · exact .inr ⟨.region, hin⟩

theorem State.denied_some_iff {reason : MemReason} :
    s.denied acc ea n = some reason ↔ s.Denied acc ea n reason := by
  refine ⟨fun h => ?_, State.Denied.denied_eq⟩
  rcases s.admitted_or_denied acc ea n with hadm | ⟨actual, hactual⟩
  · simp [(State.denied_none_iff s acc ea n).2 hadm] at h
  · rw [hactual.denied_eq] at h
    cases h
    exact hactual

/-- A denied access records `MemoryFault` with its reason, whatever would follow it (R231, R260). -/
theorem State.withAccess_denied {reason : MemReason} (k : Unit → Out) (h : s.Denied acc ea n reason) :
    s.withAccess acc ea n k = .next (s.faulted (.memoryFault ea n reason)) := by
  simp [State.withAccess, h.denied_eq, State.faulted]

end Access

/-- Settles O47: the reasons are exhaustive, and each that holds is the test's one answer. -/
theorem everyAccessIsAdmittedOrDenied : Obligations.EveryAccessIsAdmittedOrDenied := by
  intro s acc ea n
  refine ⟨State.denied_none_iff s acc ea n, fun _ => State.denied_some_iff, fun hadm reason hden => ?_,
    fun k _ => State.withAccess_denied k⟩
  have hsome := hden.denied_eq
  rw [(State.denied_none_iff s acc ea n).2 hadm] at hsome
  cases hsome

/-! ### Helper calls -/

/-- The one effect of a helper call: R0, R1 to R5, admitted memory and the count of draws (R201, R211). -/
theorem Did.helped_of_helperCall {i : Instr} {s u : State} (h : Did i s u)
    (hi : ∃ id, i = .callHelper id ∨ i = .callBtf id) :
    ∃ r0 cells, u = { s with
        regs := s.regs.dropArgs.set .r0 (.written r0)
        mem := Memory.storeCells s.mem (admittedCells s cells)
        draws := s.draws + 1 } := by
  obtain ⟨hjump, hwrite, hstore, hlocal, hexit⟩ :
      i.isJump = false ∧ i.fieldWrite = none ∧ i.isStore = false ∧ (∀ imm, i ≠ .callLocal imm) ∧ i ≠ .exit := by
    obtain ⟨id, rfl | rfl⟩ := hi <;> exact ⟨rfl, rfl, rfl, fun _ => nofun, nofun⟩
  cases h with
  | helped r0 cells => exact ⟨r0, cells, rfl⟩
  | jumped hj => simp [hjump] at hj
  | wrote _ _ hw | loaded _ _ _ _ hw => simp [hwrite] at hw
  | stored _ _ _ hs | updated _ _ _ hs | fetched _ _ _ _ _ hs | exchanged _ _ _ _ hs | compared _ _ _ hs =>
    simp [hstore] at hs
  | called imm _ hcall => exact absurd hcall (hlocal imm)
  | returned _ _ hret => exact absurd hret hexit

/-- R6 to R10 are not among the registers that a helper's return changes (R211). -/
theorem Regs.get_helperReturn (g : Regs) (v : RegVal) :
    ∀ r ∈ [Reg.r6, .r7, .r8, .r9, .r10], (g.dropArgs.set .r0 v).get r = g.get r := by
  intro r hr
  have kept : ∀ r ∈ [Reg.r6, .r7, .r8, .r9, .r10], r ≠ .r0 ∧ r ∉ [Reg.r1, .r2, .r3, .r4, .r5] := by decide
  obtain ⟨hr0, hargs⟩ := kept r hr
  rw [Regs.get_set_other _ _ hr0, Regs.get_dropArgs, if_neg hargs]

/-- What a helper call leaves of registers and records, however it ends (R201, R211). -/
theorem exec_helperCall_frame {i : Instr} {s t : State} (hi : ∃ id, i = .callHelper id ∨ i = .callBtf id)
    (h : exec i s = .next t) :
    (∀ r ∈ [Reg.r6, .r7, .r8, .r9, .r10], t.regs.get r = s.regs.get r) ∧
      t = { s with pc := t.pc, regs := t.regs, mem := t.mem, fault := t.fault, draws := t.draws } := by
  rcases exec_cases h with ⟨f, rfl⟩ | ⟨rfl, _⟩ | ⟨u, target, did, hgoto⟩
  · exact ⟨fun _ _ => rfl, rfl⟩
  · obtain ⟨id, hid | hid⟩ := hi <;> cases hid
  · obtain ⟨r0, cells, rfl⟩ := did.helped_of_helperCall hi
    rw [State.goto_frame hgoto]
    exact ⟨Regs.get_helperReturn s.regs (.written r0), rfl⟩

/-- Settles O38: registers and records by the one effect of a helper call, memory by what O58 says of every
instruction. -/
theorem helperCallFrame : Obligations.HelperCallFrame := by
  intro s t id h
  obtain ⟨i, hi, hexec⟩ : ∃ i, (∃ id, i = .callHelper id ∨ i = .callBtf id) ∧ exec i s = .next t :=
    h.elim (fun h => ⟨_, ⟨id, .inl rfl⟩, h⟩) fun h => ⟨_, ⟨id, .inr rfl⟩, h⟩
  obtain ⟨hregs, hframe⟩ := exec_helperCall_frame hi hexec
  exact ⟨hregs, hframe, (memoryChangesOnlyWhereAdmitted i s t hexec).2⟩

/-! ### The bytes of a value in memory -/

/-- The first byte of a value, then the bytes of the value shifted down by one (R157). -/
theorem bytesOf_succ (n : Nat) (v : Word) : bytesOf (n + 1) v = v.extractLsb' 0 8 :: bytesOf n (v >>> 8) := by
  simp only [bytesOf, List.range_succ_eq_map, List.map_cons, List.map_map, List.cons.injEq, true_and]
  refine List.map_congr_left fun k _ => ?_
  ext j hj
  simp only [Function.comp, BitVec.getElem_extractLsb', BitVec.getLsbD_ushiftRight]
  congr 1
  omega

/-- Bytes taken apart and put together again keep their bits, and those above are zero (R156, R157). -/
theorem getLsbD_wordOf_bytesOf (n : Nat) (v : Word) (j : Nat) :
    (wordOf (bytesOf n v)).getLsbD j = (decide (j < 8 * n) && v.getLsbD j) := by
  induction n generalizing v j with
  | zero => simp [bytesOf, wordOf]
  | succ n ih =>
    rw [bytesOf_succ, wordOf]
    simp only [BitVec.getLsbD_or, BitVec.getLsbD_shiftLeft, ih, BitVec.getLsbD_setWidth, BitVec.getLsbD_extractLsb',
      BitVec.getLsbD_ushiftRight]
    by_cases hj : j < 8
    · have h64 : j < 64 := by omega
      have hn : j < 8 * (n + 1) := by omega
      simp [hj, h64, hn]
    · have hsub : 8 + (j - 8) = j := by omega
      have hn : j - 8 < 8 * n ↔ j < 8 * (n + 1) := by omega
      by_cases h64 : j < 64
      · simp [hj, h64, hsub, hn]
      · simp [hj, h64, BitVec.getLsbD_of_ge v j (by omega)]

theorem wordOf_bytesOf_eight (v : Word) : wordOf (bytesOf 8 v) = v := by
  ext j hj
  have hbit := getLsbD_wordOf_bytesOf 8 v j
  simpa [hj] using hbit

theorem wordOf_singleton (b : Byte) : wordOf [b] = b.setWidth 64 := by simp [wordOf]

@[simp] theorem hostOrder_hostOrder (e : Endian) (l : List Byte) : hostOrder e (hostOrder e l) = l := by
  cases e <;> simp [hostOrder]

@[simp] theorem hostOrder_singleton (e : Endian) (b : Byte) : hostOrder e [b] = [b] := by cases e <;> rfl

/-- The bytes of a value in the host's order are its `hostByte`s (R42). -/
theorem hostOrder_bytesOf (e : Endian) (n : Nat) (v : Word) :
    hostOrder e (bytesOf n v) = (List.range n).map (hostByte e n v) := by
  cases e with
  | little => rfl
  | big =>
    refine List.ext_getElem (by simp) fun k hk _ => ?_
    simp [hostOrder, bytesOf, hostByte]

/-- Each address of a store holds the byte of the value that the host keeps there (R42). -/
theorem State.byteAt_memWrite (s : State) (ea : Word) {n k : Nat} (v : Word) (hk : k < n) :
    (s.memWrite ea n v).byteAt (ea.toNat + k) = hostByte s.params.hostEndian n v k := by
  have hlen : k < (hostOrder s.params.hostEndian (bytesOf n v)).length := by simpa using hk
  rw [State.byteAt, State.memWrite_mem, Memory.lookup_storeBytes_inside _ _ _ _ hlen]
  simp [hostOrder_bytesOf]

/-! ### Loads and stores -/

/-- A load that meets no shared byte draws nothing (R48). -/
theorem State.Unshared.afterLoad {s : State} {ea : Word} {n : Nat} (h : s.Unshared ea n) :
    s.afterLoad ea.toNat n = s := by
  have hnone : ((List.range n).any fun k => s.shared (ea.toNat + k)) = false := by
    simpa using fun k (hk : k < n) => h k hk
  simp [State.afterLoad, hnone]

/-- A load that meets no shared byte gets memory's bytes (R48). -/
theorem State.Unshared.loadBytes {s : State} {ea : Word} {n : Nat} (h : s.Unshared ea n) :
    s.loadBytes ea.toNat n = (List.range n).map fun k => s.byteAt (ea.toNat + k) :=
  List.map_congr_left fun k hk => by simp [h k (List.mem_range.1 hk)]

/-- A load that is admitted, meets no shared byte and has a slot after it (R227, R230). -/
theorem load_of_unshared {s : State} {n : Nat} {ext : Word → Word} {dst src : Reg} {off : Off} {base : Word}
    (hbase : s.regs.get src = .written base) (hadm : s.Admitted .read (effAddr base off) n)
    (hun : s.Unshared (effAddr base off) n) (hlands : s.Lands ((s.pc : Int) + 1)) :
    load n ext dst src off s =
      .next { s.setReg dst (ext (s.memRead (effAddr base off) n)) with pc := s.pc + 1 } := by
  rw [load, State.withReg_written _ hbase, State.withAccess_admitted _ hadm, hun.afterLoad]
  exact State.advance_of_lands hlands

/-- A register store that answers a state without a fault has written its bytes (R229). -/
theorem storeReg_completed {s u : State} {n : Nat} {dst src : Reg} {off : Off} {base v : Word}
    (hbase : s.regs.get dst = .written base) (hv : s.regs.get src = .written v)
    (h : storeReg n dst src off s = .next u) (hu : u.fault = none) :
    u = { s.memWrite (effAddr base off) n v with pc := s.pc + 1 } := by
  rw [storeReg, State.withReg_written _ hbase, State.withReg_written _ hv] at h
  rcases State.withAccess_cases h with ⟨_, hadvance⟩ | ⟨reason, _, rfl⟩
  · rcases State.advance_cases hadvance with ⟨_, rfl⟩ | ⟨_, rfl⟩
    · rfl
    · cases hu
  · cases hu

/-- Where memory is as a store left it, its addresses hold the bytes it stored (R42). -/
theorem State.byteAt_of_memWrite {s w : State} {ea : Word} {n k : Nat} {v : Word}
    (hmem : w.mem = (s.memWrite ea n v).mem) (hk : k < n) :
    w.byteAt (ea.toNat + k) = hostByte s.params.hostEndian n v k := by
  rw [State.byteAt_congr (s := s.memWrite ea n v) (by rw [hmem]), State.byteAt_memWrite s ea v hk]

/-- Reading back all eight bytes of a value gives the value, on either host (R42). -/
theorem State.memRead_eight_of_memWrite {s w : State} {ea v : Word} (hparams : w.params = s.params)
    (hmem : w.mem = (s.memWrite ea 8 v).mem) (hun : w.Unshared ea 8) : w.memRead ea 8 = v := by
  have hbytes : w.loadBytes ea.toNat 8 = hostOrder s.params.hostEndian (bytesOf 8 v) := by
    rw [hun.loadBytes, hostOrder_bytesOf]
    exact List.map_congr_left fun k hk => State.byteAt_of_memWrite hmem (List.mem_range.1 hk)
  rw [State.memRead, hbytes, hparams, hostOrder_hostOrder, wordOf_bytesOf_eight]

/-- Reading one byte gives it, zero-extended. -/
theorem State.memRead_one {s : State} {ea : Word} (hun : s.Unshared ea 1) :
    s.memRead ea 1 = (s.byteAt ea.toNat).setWidth 64 := by
  simp [State.memRead, hun.loadBytes, wordOf_singleton]

/-- Reading back one byte of a value gives the byte that the host keeps there, zero-extended (R42). -/
theorem State.memRead_one_of_memWrite {s w : State} {ea a : Word} {n k : Nat} {v : Word}
    (hmem : w.mem = (s.memWrite ea n v).mem) (hk : k < n) (ha : a.toNat = ea.toNat + k) (hun : w.Unshared a 1) :
    w.memRead a 1 = (hostByte s.params.hostEndian n v k).setWidth 64 := by
  rw [State.memRead_one hun, ha, State.byteAt_of_memWrite hmem hk]

theorem hostByte_big_eight (v : Word) (k : Nat) : hostByte .big 8 v k = v.extractLsb' (56 - 8 * k) 8 := by
  rw [hostByte, show 8 * (8 - 1 - k) = 56 - 8 * k by omega]

/-- Settles O44: the store leaves the bytes of `v` in the host's order, and each load puts together again those it
covers. -/
theorem loadAfterStore : Obligations.LoadAfterStore := by
  intro s u w dst src d b off loadOff base v loadBase k hbase hv _ hstore hu hmem hparams hload _ hun hlands
  have hstored : w.mem = (s.memWrite (effAddr base off) 8 v).mem := by
    rw [hmem, storeReg_completed hbase hv hstore hu]
  have hshared : ∀ j < 8, w.shared ((effAddr base off).toNat + j) = false := by
    simpa only [State.shared, effAddr, hparams] using hun
  refine ⟨fun hk haddr hadm => ?_, fun haddr hadm => ?_⟩
  · have hone : w.Unshared (effAddr loadBase loadOff) 1 := fun j hj => by
      rw [Nat.lt_one_iff.1 hj, effAddr, haddr]
      exact hshared k hk
    have hread : w.memRead (effAddr loadBase loadOff) 1 = (hostByte s.params.hostEndian 8 v k).setWidth 64 :=
      State.memRead_one_of_memWrite hstored hk haddr hone
    have hexec : exec (.ldxb d b loadOff) w =
        .next { w.setReg d (w.memRead (effAddr loadBase loadOff) 1) with pc := w.pc + 1 } :=
      load_of_unshared hload hadm hone hlands
    rw [hexec, hread]
    cases s.params.hostEndian with
    | little => rfl
    | big => rw [hostByte_big_eight]
  · have haddr : effAddr loadBase loadOff = effAddr base off := haddr
    have hall : w.Unshared (effAddr loadBase loadOff) 8 := haddr ▸ hshared
    have hread : w.memRead (effAddr loadBase loadOff) 8 = v :=
      State.memRead_eight_of_memWrite hparams (haddr ▸ hstored) hall
    have hexec : exec (.ldxdw d b loadOff) w =
        .next { w.setReg d (w.memRead (effAddr loadBase loadOff) 8) with pc := w.pc + 1 } :=
      load_of_unshared hload hadm hall hlands
    rw [hexec, hread]

end Sys2Proof.Machine
end

section
/-! PROOFS. Slots, fields and canonical words hold the same bits (O10, O11). -/

namespace Sys2Proof

/-! ### Bytes and words, put together and taken apart -/

theorem nibbles_of_byte (b : Byte) : b.extractLsb' 4 4 ++ b.extractLsb' 0 4 = b := by
  revert b; decide

theorem byte_toNat_nibbles (b : Byte) : b.toNat = (b.extractLsb' 4 4).toNat * 16 + (b.extractLsb' 0 4).toNat := by
  revert b; decide

theorem bytes_of_word16 (a b : Byte) : (a ++ b).extractLsb' 8 8 = a ∧ (a ++ b).extractLsb' 0 8 = b :=
  ⟨BitVec.extractLsb'_append_eq_left, BitVec.extractLsb'_append_eq_right⟩

theorem bytes_of_word32 (a b c d : Byte) :
    (a ++ b ++ c ++ d).extractLsb' 24 8 = a ∧ (a ++ b ++ c ++ d).extractLsb' 16 8 = b ∧
      (a ++ b ++ c ++ d).extractLsb' 8 8 = c ∧ (a ++ b ++ c ++ d).extractLsb' 0 8 = d := by
  refine ⟨?_, ?_, ?_, BitVec.extractLsb'_append_eq_right⟩ <;>
    repeat rw [BitVec.extractLsb'_append_eq_of_le (by decide)]
  exacts [BitVec.extractLsb'_eq_self, BitVec.extractLsb'_append_eq_right, BitVec.extractLsb'_append_eq_right]

/-- Appending is shifting the upper part up and adding the lower one. -/
theorem toNat_append_add {n m : Nat} (a : BitVec n) (b : BitVec m) :
    (a ++ b).toNat = a.toNat * 2 ^ m + b.toNat := by
  rw [BitVec.toNat_append, ← Nat.shiftLeft_add_eq_or_of_lt b.isLt, Nat.shiftLeft_eq]

/-! ### Slots and canonical words -/

/-- R61, R70: the slot that holds a slot's fields is that slot. -/
theorem Slot.ofFields_fields (e : Endian) (x : Slot) : Slot.ofFields e (x.fields e) = x := by
  cases e <;> simp only [Slot.fields, Slot.ofFields, nibbles_of_byte, bytes_of_word16, bytes_of_word32]

/-- R62, R70: the same of the second slot of an extended instruction. -/
theorem Slot.ofSecond_reserved_nextImm (e : Endian) (x : Slot) : Slot.ofSecond e (x.reserved e) (x.nextImm e) = x := by
  cases e <;> simp only [Slot.reserved, Slot.nextImm, Slot.ofSecond, bytes_of_word32]

/-- R70: a canonical word keeps its fields apart. -/
theorem Fields.ofWord_word (f : Fields) : Fields.ofWord f.word = f := by
  obtain ⟨opcode, dst, src, off, imm⟩ := f
  rw [Fields.ofWord, Fields.mk.injEq, Fields.word]
  refine ⟨BitVec.extractLsb'_append_eq_right, ?_, ?_, ?_, ?_⟩ <;>
    repeat rw [BitVec.extractLsb'_append_eq_of_le (by decide)]
  exacts [BitVec.extractLsb'_append_eq_right, BitVec.extractLsb'_append_eq_right,
    BitVec.extractLsb'_append_eq_right, BitVec.extractLsb'_eq_self]

/-- R70: the fields of a canonical word cover its 64 bits. -/
theorem Fields.word_ofWord (w : BitVec 64) : (Fields.ofWord w).word = w := by
  unfold Fields.word Fields.ofWord
  repeat rw [BitVec.extractLsb'_append_extractLsb'_eq_extractLsb' (by rfl)]
  exact BitVec.extractLsb'_eq_self

/-- R70: on a little-endian host the canonical word is the slot's bytes, the one at the lowest address lowest. -/
theorem Slot.word_little (x : Slot) :
    (x.fields .little).word = x.b7 ++ x.b6 ++ x.b5 ++ x.b4 ++ x.b3 ++ x.b2 ++ x.b1 ++ x.b0 := by
  apply BitVec.eq_of_toNat_eq
  simp only [Slot.fields, Fields.word, toNat_append_add]
  rw [byte_toNat_nibbles x.b1]
  omega

/-- Settles O11. -/
theorem slotFieldsAndWordRoundTrip : Obligations.SlotFieldsAndWordRoundTrip :=
  ⟨Slot.ofFields_fields, Slot.ofSecond_reserved_nextImm, Fields.ofWord_word, Fields.word_ofWord, Slot.word_little⟩

/-- Settles O10: the fields name the two nibbles, and a byte is 16 times the upper one plus the lower one. -/
theorem regsByteFollowsTheHost : Obligations.RegsByteFollowsTheHost :=
  fun x => ⟨rfl, rfl, rfl, rfl, byte_toNat_nibbles x.b1, byte_toNat_nibbles x.b1⟩

end Sys2Proof
end

section
/-! PROOFS. What decodes is what the bytes say (O3, O12): the fields of a decoded instruction are the fields that were
read, but for those it does not use. The decoder's combinators, its forms, its classes. -/

namespace Sys2Proof

/-! ### The fields an opcode byte uses -/

/-- Which fields an instruction uses besides the opcode byte (R83). -/
structure Uses where
  dst : Bool
  src : Bool
  off : Bool
  imm : Bool

/-- The fields that the instruction of an opcode byte uses: R83's table by class, code and the bit `s` (R64, R71 to
R73), and R227 to R229, R240 for the memory classes. `src_reg` of JA and EXIT is used: R82 has it zero under every
parameter. -/
def uses (op : BitVec 8) : Uses :=
  let code := (op.extractLsb' 4 4).toNat
  let x := op.extractLsb' 3 1 == 1#1
  match (op.extractLsb' 0 3).toNat with
  | 1 => ⟨true, true, true, false⟩
  | 2 => ⟨true, false, true, true⟩
  | 3 => ⟨true, true, true, 8 ≤ code⟩
  | 4 | 7 =>
    if x && code != 0xd then ⟨true, true, true, false⟩
    else if code = 8 then ⟨true, false, true, false⟩
    else ⟨true, false, true, true⟩
  | 5 =>
    if x then ⟨true, true, true, false⟩
    else if code = 0 then ⟨false, true, true, false⟩
    else if code = 8 then ⟨false, true, false, true⟩
    else if code = 9 then ⟨false, true, false, false⟩
    else ⟨true, true, true, true⟩
  | 6 =>
    if x then ⟨true, true, true, false⟩
    else if code = 0 then ⟨false, true, false, true⟩
    else ⟨true, true, true, true⟩
  | _ => ⟨true, true, true, true⟩

/-- The fields that are used, every other one zero. -/
def Fields.keep (f : Fields) (u : Uses) : Fields :=
  ⟨f.opcode, if u.dst then f.dst else 0, if u.src then f.src else 0, if u.off then f.off else 0,
    if u.imm then f.imm else 0⟩

/-- The fields, with zero in each that the instruction of this opcode byte does not use (R83). -/
def Fields.used (f : Fields) : Fields := f.keep (uses f.opcode)

/-! ### Decodings that answer what was read -/

/-- This decoding of the fields `f` answers an instruction with the used fields of `f`, all of `f` where unused fields
must be zero; or it rejects `f`, and not because of the profile (R83, R88). -/
inductive Faithful (p : Params) (f : Fields) : Decoded → Prop where
  | ok {i : Instr} (fields : i.fields = f.used) (zero : p.unusedFields = .mustBeZero → f.used = f) :
      Faithful p f (.ok i)
  | error {e : DecodeError} (reserved : e ≠ .loadStoreClass := by decide) : Faithful p f (.error e)

/-- This reading of the register field `n` answers the register with that number, or none. -/
def NamesReg (n : Nibble) (x : Except DecodeError Reg) : Prop :=
  (∃ r, x = .ok r ∧ r.nibble = n) ∨ x = .error .registerNumber

theorem readReg_namesReg (n : Nibble) : NamesReg n (readReg n) := by
  unfold readReg
  split
  · exact .inl ⟨_, rfl, Reg.nibble_ofNibble ‹_›⟩
  · exact .inr rfl

theorem writtenReg_namesReg (n : Nibble) : NamesReg n (writtenReg n) := by
  unfold writtenReg
  split
  · exact .inr rfl
  · exact .inl ⟨_, rfl, Reg.nibble_ofNibble ‹_›⟩
  · exact .inr rfl

theorem eq_ofNat_of_toNat {w n : Nat} {b : BitVec w} (h : b.toNat = n) : b = .ofNat w n := by
  rw [← h, BitVec.ofNat_toNat, BitVec.setWidth_eq]

namespace Faithful

variable {p : Params} {f : Fields} {d d0 d1 d8 d16 d32 d64 : Decoded} {n : Nat} {off : Off}

/-! ### Combinators -/

theorem map {x : Except DecodeError Reg} {m : Nibble} {mk : Reg → Instr} (hx : NamesReg m x)
    (h : ∀ r, r.nibble = m → Faithful p f (.ok (mk r))) : Faithful p f (x.map mk) := by
  obtain ⟨r, rfl, hr⟩ | rfl := hx
  · exact h r hr
  · exact error

theorem bind {x : Except DecodeError Reg} {m : Nibble} {k : Reg → Decoded} (hx : NamesReg m x)
    (h : ∀ r, r.nibble = m → Faithful p f (k r)) : Faithful p f (x.bind k) := by
  obtain ⟨r, rfl, hr⟩ | rfl := hx
  · exact h r hr
  · exact error

theorem ite {c : Prop} [Decidable c] (h : c → Faithful p f d) (h0 : ¬ c → Faithful p f d0) :
    Faithful p f (if c then d else d0) := by
  split
  · exact h ‹_›
  · exact h0 ‹_›

/-- Behind the check of R83 unused fields are zero where they must be. -/
theorem unused {zero : Bool} (h : (p.unusedFields = .mustBeZero → zero = true) → Faithful p f d) :
    Faithful p f (p.unused zero d) :=
  ite (fun hc => h fun hm => by simpa [hm] using hc) fun _ => error

theorem lax (h : Faithful p f d) : Faithful p f (p.lax d) := ite (fun _ => error) fun _ => h

theorem offset0 (h0 : f.off = 0 → Faithful p f d0) : Faithful p f (offset0 f d0) :=
  ite (fun h => h0 (by simpa using h)) fun _ => error

theorem offset01 (h0 : f.off = 0 → Faithful p f d0) (h1 : f.off = 1 → Faithful p f d1) :
    Faithful p f (offset01 f d0 d1) :=
  ite (fun h => h0 (by simpa using h)) fun _ => ite (fun h => h1 (by simpa using h)) fun _ => error

theorem offsetMov (h0 : f.off = 0 → Faithful p f d0) (h8 : f.off = 8 → Faithful p f d8)
    (h16 : f.off = 16 → Faithful p f d16) (h32 : f.off = 32 → Faithful p f d32) :
    Faithful p f (offsetMov f d0 d8 d16 d32) :=
  ite (fun h => h0 (by simpa using h)) fun _ => ite (fun h => h8 (by simpa using h)) fun _ =>
    ite (fun h => h16 (by simpa using h)) fun _ => ite (fun h => h32 (by simpa using h)) fun _ => error

theorem swapWidth (h16 : f.off = 0 → f.imm = 16 → Faithful p f d16) (h32 : f.off = 0 → f.imm = 32 → Faithful p f d32)
    (h64 : f.off = 0 → f.imm = 64 → Faithful p f d64) : Faithful p f (swapWidth f d16 d32 d64) :=
  ite
    (fun ho => ite (fun h => h16 (by simpa using ho) (by simpa using h)) fun _ =>
      ite (fun h => h32 (by simpa using ho) (by simpa using h)) fun _ =>
        ite (fun h => h64 (by simpa using ho) (by simpa using h)) fun _ => error)
    fun _ => error

/-! ### Forms

`n` is the row's opcode byte and `off` its offset selector. That the encoder has the same row, and that the row's unused
fields are those of R83's table, is found by `rfl`. -/

/-- One register field; `src_reg` is unused. -/
theorem oneReg {x : Except DecodeError Reg} {mk : Reg → Instr} {imm : Imm} (hx : NamesReg f.dst x)
    (hop : f.opcode.toNat = n) (hoff : f.off = off) (himm : f.imm = imm)
    (hk : ∀ d, (mk d).fields = kFields (.ofNat 8 n) off d imm)
    (hu : uses (.ofNat 8 n) = ⟨true, false, true, true⟩) : Faithful p f (p.unused (f.src == 0) (x.map mk)) := by
  have hf : f.opcode = .ofNat 8 n := eq_ofNat_of_toNat hop
  have hused : f.used = ⟨f.opcode, f.dst, 0, f.off, f.imm⟩ := by simp [Fields.used, Fields.keep, hf, hu]
  refine unused fun hz => map hx fun d hd => .ok ?_ fun hm => ?_
  · rw [hk, hused, kFields, hd, hf, hoff, himm]
  · have hsrc : f.src = 0 := by simpa using hz hm
    rw [hused, ← hsrc]

/-- Two register fields; `imm` is used, or unused and 0. -/
theorem twoRegs {x y : Except DecodeError Reg} {mk : Reg → Reg → Instr} (b : Bool) (hx : NamesReg f.dst x)
    (hy : NamesReg f.src y) (hop : f.opcode.toNat = n) (hoff : f.off = off)
    (hz : b = false → p.unusedFields = .mustBeZero → f.imm = 0)
    (hk : ∀ d s, (mk d s).fields = mFields (.ofNat 8 n) d s off (if b then f.imm else 0))
    (hu : uses (.ofNat 8 n) = ⟨true, true, true, b⟩) : Faithful p f (x.bind fun d => y.map fun s => mk d s) := by
  have hf : f.opcode = .ofNat 8 n := eq_ofNat_of_toNat hop
  have hused : f.used = ⟨f.opcode, f.dst, f.src, f.off, if b then f.imm else 0⟩ := by
    simp [Fields.used, Fields.keep, hf, hu]
  refine bind hx fun d hd => map hy fun s hs => .ok ?_ fun hm => ?_
  · rw [hk, hused, mFields, hd, hs, hf, hoff]
  · cases b with
    | false => rw [hused, if_neg Bool.false_ne_true, ← hz rfl hm]
    | true => exact hused

theorem kForm {mk : Reg → Imm → Instr} (hop : f.opcode.toNat = n) (hoff : f.off = off)
    (hk : ∀ d imm, (mk d imm).fields = kFields (.ofNat 8 n) off d imm := by exact fun _ _ => rfl)
    (hu : uses (.ofNat 8 n) = ⟨true, false, true, true⟩ := by rfl) :
    Faithful p f (kForm p f mk) :=
  oneReg (writtenReg_namesReg _) hop hoff rfl (fun d => hk d f.imm) hu

theorem endForm {mk : Reg → Instr} {imm : Imm} (hop : f.opcode.toNat = n) (hoff : f.off = off) (himm : f.imm = imm)
    (hk : ∀ d, (mk d).fields = kFields (.ofNat 8 n) off d imm := by exact fun _ => rfl)
    (hu : uses (.ofNat 8 n) = ⟨true, false, true, true⟩ := by rfl) :
    Faithful p f (endForm p f mk) :=
  oneReg (writtenReg_namesReg _) hop hoff himm hk hu

theorem stForm {mk : Reg → Off → Imm → Instr} (hop : f.opcode.toNat = n)
    (hk : ∀ d off imm, (mk d off imm).fields = kFields (.ofNat 8 n) off d imm := by exact fun _ _ _ => rfl)
    (hu : uses (.ofNat 8 n) = ⟨true, false, true, true⟩ := by rfl) :
    Faithful p f (stForm p f mk) :=
  oneReg (readReg_namesReg _) hop rfl rfl (fun d => hk d f.off f.imm) hu

theorem negForm {mk : Reg → Instr} (hop : f.opcode.toNat = n) (hoff : f.off = off)
    (hk : ∀ d, (mk d).fields = kFields (.ofNat 8 n) off d 0 := by exact fun _ => rfl)
    (hu : uses (.ofNat 8 n) = ⟨true, false, true, false⟩ := by rfl) : Faithful p f (negForm p f mk) := by
  have hf : f.opcode = .ofNat 8 n := eq_ofNat_of_toNat hop
  have hused : f.used = ⟨f.opcode, f.dst, 0, f.off, 0⟩ := by simp [Fields.used, Fields.keep, hf, hu]
  refine unused fun hz => map (writtenReg_namesReg _) fun d hd => .ok ?_ fun hm => ?_
  · rw [hk, hused, kFields, hd, hf, hoff]
  · obtain ⟨hsrc, himm⟩ : f.src = 0 ∧ f.imm = 0 := by simpa using hz hm
    rw [hused, ← hsrc, ← himm]

section ImmUnused

variable (hop : f.opcode.toNat = n)
include hop

theorem xForm {mk : Reg → Reg → Instr} (hoff : f.off = off)
    (hk : ∀ d s, (mk d s).fields = mFields (.ofNat 8 n) d s off 0 := by exact fun _ _ => rfl)
    (hu : uses (.ofNat 8 n) = ⟨true, true, true, false⟩ := by rfl) :
    Faithful p f (xForm p f mk) :=
  unused fun hz =>
    twoRegs false (writtenReg_namesReg _) (readReg_namesReg _) hop hoff (fun _ hm => by simpa using hz hm) hk
    hu

theorem ldxForm {mk : Reg → Reg → Off → Instr}
    (hk : ∀ off d s, (mk d s off).fields = mFields (.ofNat 8 n) d s off 0 := by exact fun _ _ _ => rfl)
    (hu : uses (.ofNat 8 n) = ⟨true, true, true, false⟩ := by rfl) :
    Faithful p f (ldxForm p f mk) :=
  xForm hop rfl (hk f.off) hu

theorem stxForm {mk : Reg → Reg → Off → Instr}
    (hk : ∀ off d s, (mk d s off).fields = mFields (.ofNat 8 n) d s off 0 := by exact fun _ _ _ => rfl)
    (hu : uses (.ofNat 8 n) = ⟨true, true, true, false⟩ := by rfl) :
    Faithful p f (stxForm p f mk) :=
  unused fun hz => twoRegs false (readReg_namesReg _) (readReg_namesReg _) hop rfl (fun _ hm => by simpa using hz hm)
    (hk f.off) hu

theorem jumpXForm {mk : Reg → Reg → Off → Instr}
    (hk : ∀ off d s, (mk d s off).fields = mFields (.ofNat 8 n) d s off 0 := by exact fun _ _ _ => rfl)
    (hu : uses (.ofNat 8 n) = ⟨true, true, true, false⟩ := by rfl) :
    Faithful p f (jumpXForm p f mk) :=
  stxForm hop hk hu

end ImmUnused

section AllUsed

variable (hop : f.opcode.toNat = n)
include hop

theorem jumpKForm {mk : Reg → Nibble → Off → Imm → Instr}
    (hk : ∀ d src off imm, (mk d src off imm).fields = ⟨.ofNat 8 n, d.nibble, src, off, imm⟩ := by
      exact fun _ _ _ _ => rfl)
    (hu : uses (.ofNat 8 n) = ⟨true, true, true, true⟩ := by rfl) :
    Faithful p f (jumpKForm f mk) := by
  have hf : f.opcode = .ofNat 8 n := eq_ofNat_of_toNat hop
  have hused : f.used = f := by rw [Fields.used, hf, hu]; rfl
  refine map (readReg_namesReg _) fun d hd => .ok ?_ fun _ => hused
  rw [hk, hused, hd, ← hf]

theorem atomicForm {mk : Reg → Reg → Off → Instr} {imm : Imm} (himm : f.imm = imm)
    (hk : ∀ off d s, (mk d s off).fields = mFields (.ofNat 8 n) d s off imm := by exact fun _ _ _ => rfl)
    (hu : uses (.ofNat 8 n) = ⟨true, true, true, true⟩ := by rfl) :
    Faithful p f (atomicForm f mk) :=
  twoRegs true (readReg_namesReg _) (readReg_namesReg _) hop rfl nofun (himm ▸ hk f.off) hu

theorem fetchForm {mk : Reg → Reg → Off → Instr} {imm : Imm} (himm : f.imm = imm)
    (hk : ∀ off d s, (mk d s off).fields = mFields (.ofNat 8 n) d s off imm := by exact fun _ _ _ => rfl)
    (hu : uses (.ofNat 8 n) = ⟨true, true, true, true⟩ := by rfl) :
    Faithful p f (fetchForm f mk) :=
  twoRegs true (readReg_namesReg _) (writtenReg_namesReg _) hop rfl nofun (himm ▸ hk f.off) hu

end AllUsed

/-! ### Classes, in the order of the decoder's rows -/

theorem decodeAlu : Faithful p f (decodeAlu p f) := by
  unfold Sys2Proof.decodeAlu
  split <;> rename_i hop
  exacts [
    .offset0 (.kForm hop), .offset0 (.xForm hop),
    .offset0 (.kForm hop), .offset0 (.xForm hop),
    .offset0 (.kForm hop), .offset0 (.xForm hop),
    .offset01 (.kForm hop) (.kForm hop), .offset01 (.xForm hop) (.xForm hop),
    .offset0 (.kForm hop), .offset0 (.xForm hop),
    .offset0 (.kForm hop), .offset0 (.xForm hop),
    .offset0 (.kForm hop), .offset0 (.xForm hop),
    .offset0 (.kForm hop), .offset0 (.xForm hop),
    .offset0 (.negForm hop), .error,
    .offset01 (.kForm hop) (.kForm hop), .offset01 (.xForm hop) (.xForm hop),
    .offset0 (.kForm hop), .offset0 (.xForm hop),
    .offsetMov (.kForm hop) (.lax <| .kForm hop ·) (.lax <| .kForm hop ·) (.lax <| .kForm hop ·),
    .offsetMov (.xForm hop) (.xForm hop) (.xForm hop) (.lax <| .xForm hop ·),
    .offset0 (.kForm hop), .offset0 (.xForm hop),
    .swapWidth (.endForm hop) (.endForm hop) (.endForm hop),
    .swapWidth (.endForm hop) (.endForm hop) (.endForm hop),
    .error]

theorem decodeAlu64 : Faithful p f (decodeAlu64 p f) := by
  unfold Sys2Proof.decodeAlu64
  split <;> rename_i hop
  exacts [
    .offset0 (.kForm hop), .offset0 (.xForm hop),
    .offset0 (.kForm hop), .offset0 (.xForm hop),
    .offset0 (.kForm hop), .offset0 (.xForm hop),
    .offset01 (.kForm hop) (.kForm hop), .offset01 (.xForm hop) (.xForm hop),
    .offset0 (.kForm hop), .offset0 (.xForm hop),
    .offset0 (.kForm hop), .offset0 (.xForm hop),
    .offset0 (.kForm hop), .offset0 (.xForm hop),
    .offset0 (.kForm hop), .offset0 (.xForm hop),
    .offset0 (.negForm hop), .error,
    .offset01 (.kForm hop) (.kForm hop), .offset01 (.xForm hop) (.xForm hop),
    .offset0 (.kForm hop), .offset0 (.xForm hop),
    .offsetMov (.kForm hop) (.lax <| .kForm hop ·) (.lax <| .kForm hop ·) (.lax <| .kForm hop ·),
    .offsetMov (.xForm hop) (.xForm hop) (.xForm hop) (.xForm hop),
    .offset0 (.kForm hop), .offset0 (.xForm hop),
    .swapWidth (.endForm hop) (.endForm hop) (.endForm hop), .error,
    .error]

/-- JA, JA32, CALL and EXIT: no register field, and `src_reg` is a selector. -/
theorem control {zero : Bool} {i : Instr} {src : Nibble} (u : Uses) (hop : f.opcode.toNat = n) (hsrc : f.src = src)
    (hi : i.fields = Fields.keep ⟨.ofNat 8 n, f.dst, src, f.off, f.imm⟩ u := by rfl)
    (hz : zero = true → f.keep u = f := by cases f; simp +contextual [Fields.keep])
    (hu : uses (.ofNat 8 n) = u := by rfl) : Faithful p f (p.unused zero (.ok i)) := by
  have hf : f.opcode = .ofNat 8 n := eq_ofNat_of_toNat hop
  have hused : f.used = f.keep u := by rw [Fields.used, hf, hu]
  refine unused fun hzero => .ok ?_ fun hm => hused ▸ hz (hzero hm)
  rw [hi, hused, ← hf, ← hsrc]

theorem decodeJa (hop : f.opcode.toNat = 0x05) : Faithful p f (decodeJa p f) :=
  ite (fun hsrc => control ⟨false, true, true, false⟩ hop (beq_iff_eq.1 hsrc)) fun _ => error

theorem decodeJa32 (hop : f.opcode.toNat = 0x06) : Faithful p f (decodeJa32 p f) :=
  ite (fun hsrc => control ⟨false, true, false, true⟩ hop (beq_iff_eq.1 hsrc)) fun _ => error

theorem decodeCall (hop : f.opcode.toNat = 0x85) : Faithful p f (decodeCall p f) := by
  unfold Sys2Proof.decodeCall
  split <;> rename_i hsrc
  case h_4 => exact error
  all_goals exact control ⟨false, true, false, true⟩ hop (eq_ofNat_of_toNat hsrc)

theorem decodeExit (hop : f.opcode.toNat = 0x95) : Faithful p f (decodeExit p f) :=
  ite (fun hsrc => control ⟨false, true, false, false⟩ hop (beq_iff_eq.1 hsrc)) fun _ => error

theorem decodeJmp : Faithful p f (decodeJmp p f) := by
  unfold Sys2Proof.decodeJmp
  split <;> rename_i hop
  exacts [
    .decodeJa hop, .error,
    .jumpKForm hop, .jumpXForm hop, .jumpKForm hop, .jumpXForm hop, .jumpKForm hop, .jumpXForm hop,
    .jumpKForm hop, .jumpXForm hop, .jumpKForm hop, .jumpXForm hop, .jumpKForm hop, .jumpXForm hop,
    .jumpKForm hop, .jumpXForm hop,
    .decodeCall hop, .error, .decodeExit hop, .error,
    .jumpKForm hop, .jumpXForm hop, .jumpKForm hop, .jumpXForm hop, .jumpKForm hop, .jumpXForm hop,
    .jumpKForm hop, .jumpXForm hop,
    .error]

theorem decodeJmp32 : Faithful p f (decodeJmp32 p f) := by
  unfold Sys2Proof.decodeJmp32
  split <;> rename_i hop
  exacts [
    .decodeJa32 hop, .error,
    .jumpKForm hop, .jumpXForm hop, .jumpKForm hop, .jumpXForm hop, .jumpKForm hop, .jumpXForm hop,
    .jumpKForm hop, .jumpXForm hop, .jumpKForm hop, .jumpXForm hop, .jumpKForm hop, .jumpXForm hop,
    .jumpKForm hop, .jumpXForm hop,
    .error, .error, .error, .error,
    .jumpKForm hop, .jumpXForm hop, .jumpKForm hop, .jumpXForm hop, .jumpKForm hop, .jumpXForm hop,
    .jumpKForm hop, .jumpXForm hop,
    .error]

theorem decodeAtomic32 (hop : f.opcode.toNat = 0xc3) : Faithful p f (decodeAtomic32 f) := by
  unfold Sys2Proof.decodeAtomic32
  split <;> rename_i hsel
  case h_11 => exact error
  case h_5 | h_6 | h_7 | h_8 | h_9 => exact fetchForm hop (eq_ofNat_of_toNat hsel)
  all_goals exact atomicForm hop (eq_ofNat_of_toNat hsel)

theorem decodeAtomic64 (hop : f.opcode.toNat = 0xdb) : Faithful p f (decodeAtomic64 f) := by
  unfold Sys2Proof.decodeAtomic64
  split <;> rename_i hsel
  case h_11 => exact error
  case h_5 | h_6 | h_7 | h_8 | h_9 => exact fetchForm hop (eq_ofNat_of_toNat hsel)
  all_goals exact atomicForm hop (eq_ofNat_of_toNat hsel)

theorem decodeLdx : Faithful p f (decodeLdx p f) := by
  unfold Sys2Proof.decodeLdx
  split <;> rename_i hop
  exacts [.ldxForm hop, .ldxForm hop, .ldxForm hop, .ldxForm hop, .ldxForm hop, .ldxForm hop, .ldxForm hop, .error]

theorem decodeSt : Faithful p f (decodeSt p f) := by
  unfold Sys2Proof.decodeSt
  split <;> rename_i hop
  exacts [.stForm hop, .stForm hop, .stForm hop, .stForm hop, .error]

theorem decodeStx : Faithful p f (decodeStx p f) := by
  unfold Sys2Proof.decodeStx
  split <;> rename_i hop
  exacts [.stxForm hop, .stxForm hop, .stxForm hop, .stxForm hop, .decodeAtomic32 hop, .decodeAtomic64 hop, .error]

/-- An instruction whose fields are all that was read. -/
theorem whole {i : Instr} (hi : i.fields = f) (hu : uses f.opcode = ⟨true, true, true, true⟩) :
    Faithful p f (.ok i) := by
  have hused : f.used = f := by rw [Fields.used, hu]; rfl
  exact .ok (hi.trans hused.symm) fun _ => hused

/-- A legacy packet load keeps all the bits above its opcode byte (R235). -/
theorem legacyFields_rest {op : BitVec 8} (hf : f.opcode = op) : legacyFields op f.rest = f := by
  subst hf
  obtain ⟨opcode, dst, src, off, imm⟩ := f
  rw [legacyFields, Fields.mk.injEq, Fields.rest]
  refine ⟨rfl, BitVec.extractLsb'_append_eq_right, ?_, ?_, ?_⟩ <;>
    repeat rw [BitVec.extractLsb'_append_eq_of_le (by decide)]
  exacts [BitVec.extractLsb'_append_eq_right, BitVec.extractLsb'_append_eq_right, BitVec.extractLsb'_eq_self]

theorem decodeLd : Faithful p f (decodeLd f) := by
  unfold Sys2Proof.decodeLd
  split <;> rename_i hop
  case h_7 => exact error
  all_goals
    have hf := eq_ofNat_of_toNat hop
    exact whole (legacyFields_rest hf) (hf ▸ rfl)

theorem decodeBasic : Faithful p f (decodeBasic p f) := by
  unfold Sys2Proof.decodeBasic
  split
  exacts [.decodeLd, .decodeLdx, .decodeSt, .decodeStx, .decodeAlu, .decodeJmp, .decodeJmp32, .decodeAlu64]

end Faithful

/-! ### The extended instruction -/

/-- `LD IMM DW` keeps its three operands (R232); a subtype above 6 is no instruction (R234). -/
theorem lddwOf_cases (subtype : Nibble) (r : Reg) (imm nextImm : Imm) :
    (∃ i, lddwOf subtype r imm nextImm = .ok i ∧ i.fields = lddwFields subtype r imm ∧ i.nextImm = some nextImm) ∨
      lddwOf subtype r imm nextImm = .error .lddwSubtype := by
  unfold lddwOf
  split <;> rename_i hsub
  case h_8 => exact .inr rfl
  all_goals
    rw [eq_ofNat_of_toNat hsub]
    exact .inl ⟨_, rfl, rfl, rfl⟩

/-- R62, R63: an extended instruction is all that its fields and its second slot say, and `reserved` is zero. -/
theorem decodeExtended_cases (e : Endian) {f : Fields} (y : Slot) (hop : f.opcode = 0x18#8) :
    (∃ i, decodeExtended e f y = .ok i ∧ y.reserved e = 0 ∧ i.fields = f ∧ i.nextImm = some (y.nextImm e)) ∨
      ∃ err, decodeExtended e f y = .error err ∧ err ≠ .loadStoreClass := by
  unfold decodeExtended
  split
  · rename_i hoff
    split
    · rename_i hres
      obtain ⟨d, hd, hdst⟩ | hnone := writtenReg_namesReg f.dst
      · obtain ⟨i, hi, hfields, hnext⟩ | hsub := lddwOf_cases f.src d f.imm (y.nextImm e)
        · refine .inl ⟨i, by rw [hd]; exact hi, beq_iff_eq.1 hres, ?_, hnext⟩
          rw [hfields, lddwFields, hdst, show (0x18 : BitVec 8) = f.opcode from hop.symm, ← beq_iff_eq.1 hoff]
        · exact .inr ⟨_, by rw [hd]; exact hsub, by decide⟩
      · exact .inr ⟨_, by rw [hnone]; rfl, by decide⟩
    · exact .inr ⟨_, rfl, by decide⟩
  · exact .inr ⟨_, rfl, by decide⟩

/-! ### Decoding slots -/

/-- The profile lets the model read this slot: under `refuse` it is of none of the classes 0 to 3 (R88). -/
def Params.Reads (p : Params) (x : Slot) : Prop := p.ldstProfile = .refuse → 4 ≤ (x.b0.extractLsb' 0 3).toNat

section Slots

variable {p : Params} {x y : Slot} {rest more : List Slot} {i : Instr}

/-- The decoder's own test of the profile. -/
theorem Params.not_reads_iff (p : Params) (x : Slot) :
    (p.ldstProfile == .refuse && decide (((x.fields p.hostEndian).opcode.extractLsb' 0 3).toNat < 4)) = true ↔
      ¬ p.Reads x := by
  rw [Slot.fields_opcode, Params.Reads, Bool.and_eq_true, beq_iff_eq, decide_eq_true_iff, Classical.not_imp, not_le]

theorem decode_of_not_reads (h : ¬ p.Reads x) : decode p (x :: rest) = .error .loadStoreClass :=
  if_pos ((p.not_reads_iff x).2 h)

section Reads

variable (hp : p.Reads x)
include hp

theorem decode_basic (hx : x.b0 ≠ 0x18#8) :
    decode p (x :: rest) = (decodeBasic p (x.fields p.hostEndian)).map fun i => (i, rest) :=
  (if_neg fun h => (p.not_reads_iff x).1 h hp).trans (if_neg fun h => hx (beq_iff_eq.1 h))

theorem decode_extended (hx : x.b0 = 0x18#8) :
    decode p (x :: y :: rest) = (decodeExtended p.hostEndian (x.fields p.hostEndian) y).map fun i => (i, rest) :=
  (if_neg fun h => (p.not_reads_iff x).1 h hp).trans (if_pos (beq_iff_eq.2 hx))

theorem decode_truncated (hx : x.b0 = 0x18#8) : decode p [x] = .error .truncated :=
  (if_neg fun h => (p.not_reads_iff x).1 h hp).trans (if_pos (beq_iff_eq.2 hx))

end Reads

/-- The encoder's form of R87: opcode byte 0x18 is what makes an instruction fill two slots. -/
theorem Instr.nextImm_isSome (i : Instr) : i.nextImm.isSome = (i.fields.opcode == 0x18#8) := by cases i <;> rfl

/-- What an instruction that decodes from slot `x` and those after it has to do with them: it is a basic instruction
with the used fields of `x`, or an extended one with all fields of `x` and of the next slot. -/
inductive ReadFrom (p : Params) (x : Slot) : List Slot → List Slot → Instr → Prop where
  | basic {i : Instr} {rest : List Slot} (opcode : x.b0 ≠ 0x18#8) (next : i.nextImm = none)
      (fields : i.fields = (x.fields p.hostEndian).used)
      (zero : p.unusedFields = .mustBeZero → (x.fields p.hostEndian).used = x.fields p.hostEndian) :
      ReadFrom p x rest rest i
  | extended {i : Instr} {y : Slot} {rest : List Slot} (opcode : x.b0 = 0x18#8)
      (next : i.nextImm = some (y.nextImm p.hostEndian)) (fields : i.fields = x.fields p.hostEndian)
      (reserved : y.reserved p.hostEndian = 0) : ReadFrom p x (y :: rest) rest i

/-- Decoding, where the profile reads the slot: an instruction that the slots hold, or a reserved encoding. -/
theorem decode_cases (hp : p.Reads x) (more : List Slot) :
    (∃ i rest, decode p (x :: more) = .ok (i, rest) ∧ ReadFrom p x more rest i) ∨ Machine.Reserved p (x :: more) := by
  by_cases hx : x.b0 = 0x18#8
  · cases more with
    | nil => exact .inr ⟨_, decode_truncated hp hx, by decide⟩
    | cons y rest =>
      have hdec := decode_extended (y := y) (rest := rest) hp hx
      obtain ⟨i, hi, hres, hfields, hnext⟩ | ⟨err, herr, hne⟩ :=
        decodeExtended_cases p.hostEndian y ((Slot.fields_opcode _ _).trans hx)
      · exact .inl ⟨i, rest, by rw [hdec, hi]; rfl, .extended hx hnext hfields hres⟩
      · exact .inr ⟨err, by rw [hdec, herr]; rfl, hne⟩
  · have hdec := decode_basic (rest := more) hp hx
    have hfaith := Faithful.decodeBasic (p := p) (f := x.fields p.hostEndian)
    generalize decodeBasic p (x.fields p.hostEndian) = d at hdec hfaith
    cases hfaith with
    | @ok i hfields hzero =>
      have hnext : i.nextImm = none := by
        rw [← Option.isNone_iff_eq_none, ← Option.not_isSome, i.nextImm_isSome, hfields]
        simpa [Fields.used, Fields.keep] using hx
      exact .inl ⟨i, more, hdec, .basic hx hnext hfields hzero⟩
    | @error err hne => exact .inr ⟨err, hdec, hne⟩

/-- What decodes is read, and is what was read. -/
theorem readFrom_of_decode (h : decode p (x :: more) = .ok (i, rest)) : ReadFrom p x more rest i := by
  have hp : p.Reads x := by
    by_contra hp
    rw [decode_of_not_reads hp] at h
    cases h
  obtain ⟨j, rest', hj, hread⟩ | ⟨e, he, _⟩ := decode_cases hp more
  · rw [h] at hj
    cases hj
    exact hread
  · rw [h] at he
    cases he

end Slots

/-- Settles O3: the slots hold the fields of the instruction, all of them under `must_be_zero`, and fields make a slot
again. -/
theorem decodedBytesAreTheEncoding : Obligations.DecodedBytesAreTheEncoding := by
  intro p slots i rest hzero h
  cases slots with
  | nil => cases h
  | cons x more =>
    cases readFrom_of_decode h with
    | basic _ hnext hfields hused =>
      rw [encode, hnext, hfields, hused hzero, Slot.ofFields_fields]
      rfl
    | @extended _ y _ _ hnext hfields hres =>
      rw [encode, hnext, hfields, ← hres, Slot.ofFields_fields]
      simp [Slot.ofSecond_reserved_nextImm]

/-- Settles O12: the instruction has the opcode byte of its first slot, which is what its number of slots depends on. -/
theorem instructionsFillOneOrTwoSlots : Obligations.InstructionsFillOneOrTwoSlots := by
  intro p x more i rest h
  cases readFrom_of_decode h with
  | basic hop hnext _ _ => simp [Instr.slots, hnext, hop]
  | extended hop hnext _ _ => simp [Instr.slots, hnext, hop]

end Sys2Proof
end

section
/-! PROOFS. Decoding an encoding gives the instruction back (O2): the decoder's forms on the encoder's fields, then
every row of the tables; and the spec's example bytes (O1). -/

namespace Sys2Proof

/-! ### The forms, on encoded fields -/

section Forms

variable {p : Params} {op : BitVec 8} {off : Off} {imm : Imm} {dst src : Reg}

theorem unused_of_zero (p : Params) {zero : Bool} {d : Decoded} (h : zero = true) : p.unused zero d = d := by
  rw [Params.unused, h, Bool.true_or]; rfl

theorem lax_of_admitted {i : Instr} {d : Decoded} (ha : i.admitted p = true) (hx : i.isLaxMovsx = true) :
    p.lax d = d := by
  simp only [Instr.admitted, hx, Bool.and_true, Bool.and_eq_true, Bool.not_eq_true'] at ha
  exact if_neg (by simp [ha.2])

section Writes

variable (p) (hd : dst ≠ .r10)
include hd

theorem kForm_fields {mk : Reg → Imm → Instr} : kForm p (kFields op off dst imm) mk = .ok (mk dst imm) := by
  simp [kForm, kFields, unused_of_zero, writtenReg_nibble hd, Except.map]

theorem xForm_fields {mk : Reg → Reg → Instr} : xForm p (mFields op dst src off 0) mk = .ok (mk dst src) := by
  simp [xForm, mFields, unused_of_zero, writtenReg_nibble hd, Except.map, Except.bind]

theorem negForm_fields {mk : Reg → Instr} : negForm p (kFields op off dst 0) mk = .ok (mk dst) := by
  simp [negForm, kFields, unused_of_zero, writtenReg_nibble hd, Except.map]

theorem endForm_fields {mk : Reg → Instr} : endForm p (kFields op off dst imm) mk = .ok (mk dst) := by
  simp [endForm, kFields, unused_of_zero, writtenReg_nibble hd, Except.map]

theorem ldxForm_fields {mk : Reg → Reg → Off → Instr} :
    ldxForm p (mFields op dst src off 0) mk = .ok (mk dst src off) :=
  xForm_fields p hd

end Writes

theorem jumpKForm_fields {n : Nibble} {mk : Reg → Nibble → Off → Imm → Instr} :
    jumpKForm ⟨op, dst.nibble, n, off, imm⟩ mk = .ok (mk dst n off imm) := by
  simp [jumpKForm, Except.map]

theorem stxForm_fields {mk : Reg → Reg → Off → Instr} :
    stxForm p (mFields op dst src off 0) mk = .ok (mk dst src off) := by
  simp [stxForm, mFields, unused_of_zero, Except.map, Except.bind]

theorem jumpXForm_fields {mk : Reg → Reg → Off → Instr} :
    jumpXForm p (mFields op dst src off 0) mk = .ok (mk dst src off) :=
  stxForm_fields

theorem stForm_fields {mk : Reg → Off → Imm → Instr} :
    stForm p (kFields op off dst imm) mk = .ok (mk dst off imm) := by
  simp [stForm, kFields, unused_of_zero, Except.map]

theorem atomicForm_fields {mk : Reg → Reg → Off → Instr} :
    atomicForm (mFields op dst src off imm) mk = .ok (mk dst src off) := by
  simp [atomicForm, mFields, Except.map, Except.bind]

theorem fetchForm_fields {mk : Reg → Reg → Off → Instr} (hs : src ≠ .r10) :
    fetchForm (mFields op dst src off imm) mk = .ok (mk dst src off) := by
  simp [fetchForm, mFields, writtenReg_nibble hs, Except.map, Except.bind]

end Forms

/-! ### Selectors -/

section Selectors

variable {p : Params} {f : Fields} {d d0 d1 d8 d16 d32 d64 : Decoded}

theorem offset01_one (h : f.off = 1) : offset01 f d0 d1 = d1 := by simp [offset01, h]

theorem offsetMov_8 (h : f.off = 8) : offsetMov f d0 d8 d16 d32 = d8 := by simp [offsetMov, h]

theorem offsetMov_16 (h : f.off = 16) : offsetMov f d0 d8 d16 d32 = d16 := by simp [offsetMov, h]

theorem offsetMov_32 (h : f.off = 32) : offsetMov f d0 d8 d16 d32 = d32 := by simp [offsetMov, h]

theorem swapWidth_16 (ho : f.off = 0) (h : f.imm = 16) : swapWidth f d16 d32 d64 = d16 := by simp [swapWidth, ho, h]

theorem swapWidth_32 (ho : f.off = 0) (h : f.imm = 32) : swapWidth f d16 d32 d64 = d32 := by simp [swapWidth, ho, h]

theorem swapWidth_64 (ho : f.off = 0) (h : f.imm = 64) : swapWidth f d16 d32 d64 = d64 := by simp [swapWidth, ho, h]

end Selectors

/-! ### Classes -/

section Classes

variable (p : Params) {op : BitVec 8} {dst src : Nibble} {off : Off} {imm : Imm}

theorem decodeBasic_ld (h : (op.extractLsb' 0 3).toNat = 0 := by rfl) :
    decodeBasic p ⟨op, dst, src, off, imm⟩ = decodeLd ⟨op, dst, src, off, imm⟩ := by simp only [decodeBasic, h]

theorem decodeBasic_ldx (h : (op.extractLsb' 0 3).toNat = 1 := by rfl) :
    decodeBasic p ⟨op, dst, src, off, imm⟩ = decodeLdx p ⟨op, dst, src, off, imm⟩ := by simp only [decodeBasic, h]

theorem decodeBasic_st (h : (op.extractLsb' 0 3).toNat = 2 := by rfl) :
    decodeBasic p ⟨op, dst, src, off, imm⟩ = decodeSt p ⟨op, dst, src, off, imm⟩ := by simp only [decodeBasic, h]

theorem decodeBasic_stx (h : (op.extractLsb' 0 3).toNat = 3 := by rfl) :
    decodeBasic p ⟨op, dst, src, off, imm⟩ = decodeStx p ⟨op, dst, src, off, imm⟩ := by simp only [decodeBasic, h]

theorem decodeBasic_alu (h : (op.extractLsb' 0 3).toNat = 4 := by rfl) :
    decodeBasic p ⟨op, dst, src, off, imm⟩ = decodeAlu p ⟨op, dst, src, off, imm⟩ := by simp only [decodeBasic, h]

theorem decodeBasic_jmp (h : (op.extractLsb' 0 3).toNat = 5 := by rfl) :
    decodeBasic p ⟨op, dst, src, off, imm⟩ = decodeJmp p ⟨op, dst, src, off, imm⟩ := by simp only [decodeBasic, h]

theorem decodeBasic_jmp32 (h : (op.extractLsb' 0 3).toNat = 6 := by rfl) :
    decodeBasic p ⟨op, dst, src, off, imm⟩ = decodeJmp32 p ⟨op, dst, src, off, imm⟩ := by simp only [decodeBasic, h]

theorem decodeBasic_alu64 (h : (op.extractLsb' 0 3).toNat = 7 := by rfl) :
    decodeBasic p ⟨op, dst, src, off, imm⟩ = decodeAlu64 p ⟨op, dst, src, off, imm⟩ := by simp only [decodeBasic, h]

end Classes

/-! ### Every row -/

@[simp] theorem rest_legacyFields (op : BitVec 8) (rest : BitVec 56) : (legacyFields op rest).rest = rest := by
  unfold legacyFields Fields.rest
  repeat rw [BitVec.extractLsb'_append_extractLsb'_eq_extractLsb' (by rfl)]
  exact BitVec.extractLsb'_eq_self

/-- The decoder reads the fields of every basic instruction back, class by class and form by form. -/
theorem decodeBasic_fields {p : Params} {i : Instr} (hw : i.wellFormed = true) (ha : i.admitted p = true)
    (hn : i.nextImm = none) : decodeBasic p i.fields = .ok i := by
  have hne {r : Reg} (h : i.fieldWrite = some r) : r ≠ .r10 := Machine.Instr.wellFormed_fieldWrite hw h
  cases i
  case add64K | sub64K | mul64K | div64K | or64K | and64K | lsh64K | rsh64K | mod64K | xor64K | mov64K | arsh64K =>
    exact (decodeBasic_alu64 p).trans (kForm_fields p (hne rfl))
  case add64X | sub64X | mul64X | div64X | or64X | and64X | lsh64X | rsh64X | mod64X | xor64X | mov64X | arsh64X =>
    exact (decodeBasic_alu64 p).trans (xForm_fields p (hne rfl))
  case sdiv64K | smod64K => exact (decodeBasic_alu64 p).trans ((offset01_one rfl).trans (kForm_fields p (hne rfl)))
  case sdiv64X | smod64X => exact (decodeBasic_alu64 p).trans ((offset01_one rfl).trans (xForm_fields p (hne rfl)))
  case neg64 => exact (decodeBasic_alu64 p).trans (negForm_fields p (hne rfl))
  case movsx64X8 => exact (decodeBasic_alu64 p).trans ((offsetMov_8 rfl).trans (xForm_fields p (hne rfl)))
  case movsx64X16 => exact (decodeBasic_alu64 p).trans ((offsetMov_16 rfl).trans (xForm_fields p (hne rfl)))
  case movsx64X32 => exact (decodeBasic_alu64 p).trans ((offsetMov_32 rfl).trans (xForm_fields p (hne rfl)))
  case movsx64K8 =>
    exact (decodeBasic_alu64 p).trans
      ((offsetMov_8 rfl).trans ((lax_of_admitted ha rfl).trans (kForm_fields p (hne rfl))))
  case movsx64K16 =>
    exact (decodeBasic_alu64 p).trans
      ((offsetMov_16 rfl).trans ((lax_of_admitted ha rfl).trans (kForm_fields p (hne rfl))))
  case movsx64K32 =>
    exact (decodeBasic_alu64 p).trans
      ((offsetMov_32 rfl).trans ((lax_of_admitted ha rfl).trans (kForm_fields p (hne rfl))))
  case bswap16 => exact (decodeBasic_alu64 p).trans ((swapWidth_16 rfl rfl).trans (endForm_fields p (hne rfl)))
  case bswap32 => exact (decodeBasic_alu64 p).trans ((swapWidth_32 rfl rfl).trans (endForm_fields p (hne rfl)))
  case bswap64 => exact (decodeBasic_alu64 p).trans ((swapWidth_64 rfl rfl).trans (endForm_fields p (hne rfl)))
  case add32K | sub32K | mul32K | div32K | or32K | and32K | lsh32K | rsh32K | mod32K | xor32K | mov32K | arsh32K =>
    exact (decodeBasic_alu p).trans (kForm_fields p (hne rfl))
  case add32X | sub32X | mul32X | div32X | or32X | and32X | lsh32X | rsh32X | mod32X | xor32X | mov32X | arsh32X =>
    exact (decodeBasic_alu p).trans (xForm_fields p (hne rfl))
  case sdiv32K | smod32K => exact (decodeBasic_alu p).trans ((offset01_one rfl).trans (kForm_fields p (hne rfl)))
  case sdiv32X | smod32X => exact (decodeBasic_alu p).trans ((offset01_one rfl).trans (xForm_fields p (hne rfl)))
  case neg32 => exact (decodeBasic_alu p).trans (negForm_fields p (hne rfl))
  case movsx32X8 => exact (decodeBasic_alu p).trans ((offsetMov_8 rfl).trans (xForm_fields p (hne rfl)))
  case movsx32X16 => exact (decodeBasic_alu p).trans ((offsetMov_16 rfl).trans (xForm_fields p (hne rfl)))
  case movsx32X32 =>
    exact (decodeBasic_alu p).trans
      ((offsetMov_32 rfl).trans ((lax_of_admitted ha rfl).trans (xForm_fields p (hne rfl))))
  case movsx32K8 =>
    exact (decodeBasic_alu p).trans
      ((offsetMov_8 rfl).trans ((lax_of_admitted ha rfl).trans (kForm_fields p (hne rfl))))
  case movsx32K16 =>
    exact (decodeBasic_alu p).trans
      ((offsetMov_16 rfl).trans ((lax_of_admitted ha rfl).trans (kForm_fields p (hne rfl))))
  case movsx32K32 =>
    exact (decodeBasic_alu p).trans
      ((offsetMov_32 rfl).trans ((lax_of_admitted ha rfl).trans (kForm_fields p (hne rfl))))
  case tole16 | tobe16 => exact (decodeBasic_alu p).trans ((swapWidth_16 rfl rfl).trans (endForm_fields p (hne rfl)))
  case tole32 | tobe32 => exact (decodeBasic_alu p).trans ((swapWidth_32 rfl rfl).trans (endForm_fields p (hne rfl)))
  case tole64 | tobe64 => exact (decodeBasic_alu p).trans ((swapWidth_64 rfl rfl).trans (endForm_fields p (hne rfl)))
  case jeqK | jgtK | jgeK | jsetK | jneK | jsgtK | jsgeK | jltK | jleK | jsltK | jsleK =>
    exact (decodeBasic_jmp p).trans jumpKForm_fields
  case jeqX | jgtX | jgeX | jsetX | jneX | jsgtX | jsgeX | jltX | jleX | jsltX | jsleX =>
    exact (decodeBasic_jmp p).trans jumpXForm_fields
  case jeq32K | jgt32K | jge32K | jset32K | jne32K | jsgt32K | jsge32K | jlt32K | jle32K | jslt32K | jsle32K =>
    exact (decodeBasic_jmp32 p).trans jumpKForm_fields
  case jeq32X | jgt32X | jge32X | jset32X | jne32X | jsgt32X | jsge32X | jlt32X | jle32X | jslt32X | jsle32X =>
    exact (decodeBasic_jmp32 p).trans jumpXForm_fields
  case ja | callHelper | callLocal | callBtf | exit => exact (decodeBasic_jmp p).trans (unused_of_zero p rfl)
  case ja32 => exact (decodeBasic_jmp32 p).trans (unused_of_zero p rfl)
  case ldxw | ldxh | ldxb | ldxdw | ldxsw | ldxsh | ldxsb =>
    exact (decodeBasic_ldx p).trans (ldxForm_fields p (hne rfl))
  case stw | sth | stb | stdw => exact (decodeBasic_st p).trans stForm_fields
  case stxw | stxh | stxb | stxdw => exact (decodeBasic_stx p).trans stxForm_fields
  case atomic32Add | atomic32Or | atomic32And | atomic32Xor | atomic32Cmpxchg | atomic64Add | atomic64Or
    | atomic64And | atomic64Xor | atomic64Cmpxchg => exact (decodeBasic_stx p).trans atomicForm_fields
  case atomic32FetchAdd | atomic32FetchOr | atomic32FetchAnd | atomic32FetchXor | atomic32Xchg | atomic64FetchAdd
    | atomic64FetchOr | atomic64FetchAnd | atomic64FetchXor | atomic64Xchg =>
    exact (decodeBasic_stx p).trans (fetchForm_fields (hne rfl))
  case ldabsw rest => exact (decodeBasic_ld p).trans (congrArg (Except.ok ∘ Instr.ldabsw) (rest_legacyFields _ rest))
  case ldabsh rest => exact (decodeBasic_ld p).trans (congrArg (Except.ok ∘ Instr.ldabsh) (rest_legacyFields _ rest))
  case ldabsb rest => exact (decodeBasic_ld p).trans (congrArg (Except.ok ∘ Instr.ldabsb) (rest_legacyFields _ rest))
  case ldindw rest => exact (decodeBasic_ld p).trans (congrArg (Except.ok ∘ Instr.ldindw) (rest_legacyFields _ rest))
  case ldindh rest => exact (decodeBasic_ld p).trans (congrArg (Except.ok ∘ Instr.ldindh) (rest_legacyFields _ rest))
  case ldindb rest => exact (decodeBasic_ld p).trans (congrArg (Except.ok ∘ Instr.ldindb) (rest_legacyFields _ rest))
  all_goals cases hn

/-- The same of the extended instruction and its second slot. -/
theorem decodeExtended_fields {e : Endian} {i : Instr} {n : Imm} (hw : i.wellFormed = true)
    (hn : i.nextImm = some n) : decodeExtended e i.fields (Slot.ofSecond e 0 n) = .ok i := by
  have hne {r : Reg} (h : i.fieldWrite = some r) : r ≠ .r10 := Machine.Instr.wellFormed_fieldWrite hw h
  cases i
  case lddw | lddwSubtype1 | lddwSubtype2 | lddwSubtype3 | lddwSubtype4 | lddwSubtype5 | lddwSubtype6 =>
    cases hn
    simp [decodeExtended, Instr.fields, lddwFields, writtenReg_nibble (hne rfl), Except.bind, lddwOf]
  all_goals cases hn

theorem Instr.four_le_cls {i : Instr} (h : i.isLoadStore = false) : 4 ≤ (i.fields.opcode.extractLsb' 0 3).toNat := by
  cases i <;> simp_all [Instr.isLoadStore, Instr.fields, kFields, xFields, mFields]

/-- A profile that admits an instruction reads its slot (R88). -/
theorem reads_of_admitted {p : Params} {i : Instr} {x : Slot} (ha : i.admitted p = true) (hx : x.b0 = i.fields.opcode) :
    p.Reads x := by
  intro hp
  rw [hx]
  refine Instr.four_le_cls ?_
  simp only [Instr.admitted, hp, BEq.rfl, Bool.true_and, Bool.and_eq_true, Bool.not_eq_true'] at ha
  exact ha.1

/-- Settles O2: the slots hold the fields of the encoding, and the decoder has a row for each encoding. -/
theorem encodedInstructionDecodesBack : Obligations.EncodedInstructionDecodesBack := by
  intro p i rest hw ha
  have hop : (Slot.ofFields p.hostEndian i.fields).b0 = i.fields.opcode := Slot.ofFields_b0 _ _
  have hp := reads_of_admitted ha hop
  cases hn : i.nextImm with
  | none =>
    have hx : (Slot.ofFields p.hostEndian i.fields).b0 ≠ 0x18#8 := by
      simpa [hop, hn] using i.nextImm_isSome
    rw [encode, hn, List.singleton_append, decode_basic hp hx, Slot.fields_ofFields, decodeBasic_fields hw ha hn]
    rfl
  | some n =>
    have hx : (Slot.ofFields p.hostEndian i.fields).b0 = 0x18#8 := by
      simpa [hop, hn] using i.nextImm_isSome
    rw [encode, hn, List.cons_append, List.singleton_append, decode_extended hp hx, Slot.fields_ofFields,
      decodeExtended_fields hw hn]
    rfl

/-- Slots that are an encoding and nothing more decode to the instruction. -/
theorem decode_of_encode_eq {p : Params} {i : Instr} {e : Endian} {slots : List Slot} (hw : i.wellFormed = true)
    (ha : i.admitted p = true) (he : p.hostEndian = e) (hs : encode e i = slots) : decode p slots = .ok (i, []) := by
  simpa [he, hs] using encodedInstructionDecodesBack p i [] hw ha

/-- Settles O1: the examples' bytes are the encodings of the instructions they name. -/
theorem specExampleBytesDecode : Obligations.SpecExampleBytesDecode := by
  have hadd (p : Params) : (Instr.add64X .r1 .r2).admitted p = true := Instr.admitted_of (.inr rfl) (.inr rfl)
  have hmov (p : Params) : (Instr.mov64K .r3 0x11223344).admitted p = true := Instr.admitted_of (.inr rfl) (.inr rfl)
  refine ⟨fun p hp => ⟨?_, ?_⟩, fun p hp => ⟨?_, ?_⟩, fun p hp hprofile => ?_⟩
  · exact decode_of_encode_eq rfl (hadd p) hp (by decide)
  · exact decode_of_encode_eq rfl (hmov p) hp (by decide)
  · exact decode_of_encode_eq rfl (hadd p) hp (by decide)
  · exact decode_of_encode_eq rfl (hmov p) hp (by decide)
  · exact decode_of_encode_eq rfl (Instr.admitted_of (.inl (by simp [hprofile])) (.inr rfl)) hp (by decide)

end Sys2Proof
end

section
/-! PROOFS. What executing an instruction never does (O51): but for the legacy packet loads no instruction is
refused, and none records `IllegalInstruction`. Proved operation by operation. -/

namespace Sys2Proof.Machine

/-- No `IllegalInstruction` is recorded (R262). -/
def State.NoIllegal (s : State) : Prop := ∀ pc w, s.fault ≠ some (.illegalInstruction pc w)

/-- This outcome is no refusal, and its state has no `IllegalInstruction` recorded. -/
def Legal : Out → Prop
  | .next t => t.NoIllegal
  | .fault _ => True
  | .refused _ => False

theorem State.Running.noIllegal {s : State} (h : s.Running) : s.NoIllegal := fun _ _ hf => by
  rw [h.1] at hf; cases hf

namespace Legal

variable {s : State}

/-! ### Operations -/

theorem raise {f : FaultRecord} (h : ∀ pc w, f ≠ .illegalInstruction pc w := by exact fun _ _ => nofun) :
    Legal (s.raise f) :=
  fun pc w hf => h pc w (Option.some.inj hf)

theorem goto {t : Int} (h : s.NoIllegal) : Legal (s.goto t) := by
  unfold State.goto
  split
  · exact h
  · exact raise

theorem advance {n : Nat} (h : s.NoIllegal) : Legal (s.advance n) := goto h

theorem branch {taken : Bool} {d : Int} (h : s.NoIllegal) : Legal (s.branch taken d) :=
  (State.branch_eq ..) ▸ goto h

theorem withReg {r : Reg} {k : Word → Out} (h : ∀ v, Legal (k v)) : Legal (s.withReg r k) := by
  unfold State.withReg
  split
  · exact h _
  · exact raise

theorem withRegs {l : List Reg} {k : List Word → Out} (h : ∀ vs, Legal (k vs)) : Legal (s.withRegs l k) := by
  induction l generalizing k with
  | nil => exact h []
  | cons r l ih => exact withReg fun v => ih fun vs => h (v :: vs)

theorem withAccess {acc : Access} {ea : Word} {n : Nat} {k : Unit → Out} (h : Legal (k ())) :
    Legal (s.withAccess acc ea n k) := by
  unfold State.withAccess
  split
  · exact raise
  · exact h

/-! ### Shapes of instructions -/

section Shapes

variable (hs : s.NoIllegal)
include hs

theorem afterLoad {a n : Nat} : (s.afterLoad a n).NoIllegal := fun pc w => by
  rw [State.afterLoad_fault]; exact hs pc w

theorem load {n : Nat} {ext : Word → Word} {dst src : Reg} {off : Off} : Legal (load n ext dst src off s) :=
  withReg fun _ => withAccess (advance (afterLoad hs))

theorem storeImm {n : Nat} {dst : Reg} {off : Off} {imm : Imm} : Legal (storeImm n dst off imm s) :=
  withReg fun _ => withAccess (advance hs)

theorem storeReg {n : Nat} {dst src : Reg} {off : Off} : Legal (storeReg n dst src off s) :=
  withReg fun _ => withReg fun _ => withAccess (advance hs)

theorem atomicOp {n : Nat} {op : Word → Word → Word} {dst src : Reg} {off : Off} :
    Legal (atomicOp n op dst src off s) :=
  withReg fun _ => withReg fun _ => withAccess (advance (afterLoad hs))

theorem atomicFetch {n : Nat} {op : Word → Word → Word} {dst src : Reg} {off : Off} :
    Legal (atomicFetch n op dst src off s) :=
  withReg fun _ => withReg fun _ => withAccess (advance (afterLoad hs))

theorem atomicCmpxchg {n : Nat} {dst src : Reg} {off : Off} : Legal (atomicCmpxchg n dst src off s) := by
  refine withReg fun _ => withReg fun _ => withReg fun _ => withAccess ?_
  dsimp only
  split <;> exact advance (afterLoad hs)

theorem callHelper {kind : HelperKind} {id : Imm} : Legal (callHelper kind id s) := by
  unfold Machine.callHelper
  split
  · exact raise
  · refine withRegs fun args => ?_
    unfold helperAnswer
    split
    · exact advance hs
    · exact raise
    · trivial

theorem callLocal {imm : Imm} : Legal (execCallLocal imm s) := by
  refine withReg fun fp => ?_
  dsimp only
  split
  · split
    · exact raise
    · exact goto hs
  · exact raise

theorem exit : Legal (execExit s) := by
  refine withReg fun v => ?_
  split
  · exact hs
  · exact goto hs

end Shapes

end Legal

/-- No instruction but the legacy packet loads is refused, and none records `IllegalInstruction`. -/
theorem exec_legal {i : Instr} {s : State} (hi : i.isLegacy = false) (hs : s.NoIllegal) : Legal (exec i s) := by
  cases i
  case mov64K | mov32K | movsx64K8 | movsx64K16 | movsx64K32 | movsx32K8 | movsx32K16 | movsx32K32 | lddw
    | lddwSubtype1 | lddwSubtype2 | lddwSubtype3 | lddwSubtype4 | lddwSubtype5 | lddwSubtype6 => exact .advance hs
  case ja | ja32 => exact .goto hs
  case callHelper | callBtf => exact .callHelper hs
  case callLocal => exact .callLocal hs
  case exit => exact .exit hs
  case ldxw | ldxh | ldxb | ldxdw | ldxsw | ldxsh | ldxsb => exact .load hs
  case stw | sth | stb | stdw => exact .storeImm hs
  case stxw | stxh | stxb | stxdw => exact .storeReg hs
  case atomic32Add | atomic32Or | atomic32And | atomic32Xor | atomic64Add | atomic64Or | atomic64And | atomic64Xor =>
    exact .atomicOp hs
  case atomic32FetchAdd | atomic32FetchOr | atomic32FetchAnd | atomic32FetchXor | atomic64FetchAdd
    | atomic64FetchOr | atomic64FetchAnd | atomic64FetchXor => exact .atomicFetch hs
  case atomic32Xchg | atomic64Xchg => exact .atomicFetch (op := fun _ v => v) hs
  case atomic32Cmpxchg | atomic64Cmpxchg => exact .atomicCmpxchg hs
  case ldabsw | ldabsh | ldabsb | ldindw | ldindh | ldindb => cases hi
  case add64K | sub64K | mul64K | div64K | sdiv64K | or64K | and64K | lsh64K | rsh64K | mod64K | smod64K | xor64K
    | arsh64K | add32K | sub32K | mul32K | div32K | sdiv32K | or32K | and32K | lsh32K | rsh32K | mod32K | smod32K
    | xor32K | arsh32K | mov64X | mov32X | neg64 | neg32 | movsx64X8 | movsx64X16 | movsx64X32 | movsx32X8 | movsx32X16
    | movsx32X32 | tole16 | tole32 | tole64 | tobe16 | tobe32 | tobe64 | bswap16 | bswap32 | bswap64 =>
    exact .withReg fun _ => .advance hs
  case add64X | sub64X | mul64X | div64X | sdiv64X | or64X | and64X | lsh64X | rsh64X | mod64X | smod64X | xor64X
    | arsh64X | add32X | sub32X | mul32X | div32X | sdiv32X | or32X | and32X | lsh32X | rsh32X | mod32X | smod32X
    | xor32X | arsh32X => exact .withReg fun _ => .withReg fun _ => .advance hs
  case jeqK | jgtK | jgeK | jsetK | jneK | jsgtK | jsgeK | jltK | jleK | jsltK | jsleK | jeq32K | jgt32K | jge32K
    | jset32K | jne32K | jsgt32K | jsge32K | jlt32K | jle32K | jslt32K | jsle32K => exact .withReg fun _ => .branch hs
  case jeqX | jgtX | jgeX | jsetX | jneX | jsgtX | jsgeX | jltX | jleX | jsltX | jsleX | jeq32X | jgt32X | jge32X
    | jset32X | jne32X | jsgt32X | jsge32X | jlt32X | jle32X | jslt32X | jsle32X =>
    exact .withReg fun _ => .withReg fun _ => .branch hs

theorem exec_legacy {i : Instr} {s : State} (hi : i.isLegacy = true) : exec i s = .refused .legacyPacketLoad := by
  cases i
  case ldabsw | ldabsh | ldabsb | ldindw | ldindh | ldindb => rfl
  all_goals cases hi

end Sys2Proof.Machine
end

section
/-! PROOFS. The load-time check (O52), the runs of programs that pass it (O51), and slots that do not decode (O15). -/

namespace Sys2Proof.Machine

/-! ### The load-time check -/

/-- Slot `t` of these slots, no second half, decodes to an instruction that is no legacy packet load. -/
def DecodesAt (p : Params) (prog : List Slot) (t : Nat) : Prop :=
  ∃ i rest, decode p (prog.drop t) = .ok (i, rest) ∧ i.isLegacy = false

theorem decodesAt_zero_iff {p : Params} {x : Slot} {more : List Slot} :
    DecodesAt p (x :: more) 0 ↔ ∃ i rest, decode p (x :: more) = .ok (i, rest) ∧ i.isLegacy = false := Iff.rfl

/-- The check of a first half: it decodes to no legacy packet load, and the check goes on after it. -/
theorem checkFrom_first_none_iff {p : Params} {x : Slot} {more : List Slot} :
    checkFrom p false (x :: more) = none ↔ DecodesAt p (x :: more) 0 ∧ checkFrom p x.isExtended more = none := by
  rw [decodesAt_zero_iff]
  cases hdec : decode p (x :: more) with
  | error e => cases e <;> simp [checkFrom, hdec]
  | ok d =>
    obtain ⟨i, rest⟩ := d
    have hslots : (i.slots == 2) = x.isExtended := by
      rw [Bool.eq_iff_iff, beq_iff_eq, (instructionsFillOneOrTwoSlots p x more i rest hdec).2.1, Slot.isExtended,
        beq_iff_eq]
    cases hleg : i.isLegacy <;> simp [checkFrom, hdec, hleg, hslots]

/-- Reading on from any slot, the check finds no problem exactly where every first half decodes. -/
theorem checkFrom_none_iff (p : Params) (skip : Bool) (prog : List Slot) :
    checkFrom p skip prog = none ↔ ∀ t < prog.length, secondHalfFrom skip prog t = false → DecodesAt p prog t := by
  induction prog generalizing skip with
  | nil => simp [checkFrom]
  | cons x more ih =>
    have htail : (∀ t < (x :: more).length, secondHalfFrom skip (x :: more) t = false → DecodesAt p (x :: more) t) ↔
        (skip = false → DecodesAt p (x :: more) 0) ∧ checkFrom p (!skip && x.isExtended) more = none := by
      rw [ih, List.length_cons, Nat.forall_lt_succ_left]
      rfl
    rw [htail]
    cases skip with
    | false => simpa using checkFrom_first_none_iff
    | true => simp [checkFrom]

/-- Settles O52. -/
theorem loadTimeCheckReadsEveryInstruction : Obligations.LoadTimeCheckReadsEveryInstruction :=
  fun p prog => checkFrom_none_iff p false prog

/-! ### Runs of checked programs -/

/-- On a first half of a checked program, fetching finds an instruction that is no legacy packet load. -/
theorem State.Checked.fetch {s : State} (hc : s.Checked) (hpc : s.PcInv) :
    ∃ i, s.fetch = .run i ∧ i.isLegacy = false := by
  obtain ⟨_, hlt, hfirst⟩ := id hpc
  obtain ⟨i, rest, hdec, hleg⟩ :=
    (loadTimeCheckReadsEveryInstruction s.params s.prog).1 hc s.pc (Int.ofNat_lt.1 hlt) hfirst
  exact ⟨i, by rw [State.fetch_of_pcInv hpc, fetchFrom_of_decode hdec], hleg⟩

/-- A step from there is no refusal, and records no `IllegalInstruction`. -/
theorem State.Checked.step_legal {s : State} (hc : s.Checked) (hpc : s.PcInv) : Legal (step s) := by
  obtain ⟨i, hfetch, hleg⟩ := hc.fetch hpc
  unfold step
  split
  · trivial
  · rename_i hrun
    rw [hfetch]
    exact exec_legal hleg ((State.halted_none_iff s).1 hrun).noIllegal

/-- Settles O51: the check speaks of the program and the parameters, which no step changes (O55), and `pc` stays on a
first half (O50). -/
theorem checkedProgramsNeverMeetIllegalInstructions : Obligations.CheckedProgramsNeverMeetIllegalInstructions := by
  intro s hc hpc
  have hlegal := hc.step_legal hpc
  refine ⟨fun r hr => ?_, fun t ht => ⟨?_, pcStaysOnAFirstHalf s t hpc ht, ?_⟩⟩
  · rw [hr] at hlegal
    exact hlegal
  · obtain ⟨hprog, hparams⟩ := programAndParametersNeverChange s t ht
    rwa [State.Checked, hprog, hparams]
  · rw [ht] at hlegal
    exact hlegal

/-! ### Slots that do not decode -/

theorem fetchFrom_of_reserved {p : Params} {x : Slot} {rest : List Slot} (pc : Nat) (h : Reserved p (x :: rest)) :
    fetchFrom p pc (x :: rest) = .raises (.illegalInstruction pc (x.fields p.hostEndian).word) := by
  obtain ⟨e, hdec, hne⟩ := h
  cases e <;> simp_all [fetchFrom]

theorem fetchFrom_of_not_reads {p : Params} {x : Slot} {rest : List Slot} (pc : Nat) (h : ¬ p.Reads x) :
    fetchFrom p pc (x :: rest) = .refuses .loadStoreClass := by
  simp [fetchFrom, decode_of_not_reads h]

/-- Executing never answers the refusal of a load or store class. -/
theorem exec_ne_loadStoreClass {i : Instr} {s : State} (hs : s.NoIllegal) : exec i s ≠ .refused .loadStoreClass := by
  intro h
  cases hi : i.isLegacy with
  | true => rw [exec_legacy hi] at h; cases h
  | false =>
    have hlegal := exec_legal hi hs
    rw [h] at hlegal
    exact hlegal

section StepOfFetch

variable {s : State} (hrun : s.Running)
include hrun

theorem step_of_fetch_run {i : Instr} (h : s.fetch = .run i) : step s = exec i s := by
  simp [step, (State.halted_none_iff s).2 hrun, h]

theorem step_of_fetch_raises {f : FaultRecord} (h : s.fetch = .raises f) : step s = .next (s.faulted f) := by
  simp [step, (State.halted_none_iff s).2 hrun, h, State.faulted]

theorem step_of_fetch_refuses {r : Refusal} (h : s.fetch = .refuses r) : step s = .refused r := by
  simp [step, (State.halted_none_iff s).2 hrun, h]

end StepOfFetch

/-- Settles O15: what the slots from `pc` on decode to is what is fetched there, and what is fetched is what the step
does. -/
theorem undecodableSlotFaultsOrRefuses : Obligations.UndecodableSlotFaultsOrRefuses := by
  intro s x rest hrun hpc hprog
  have hfetch : s.fetch = fetchFrom s.params s.pc (x :: rest) := by rw [State.fetch_of_pcInv hpc, hprog]
  refine ⟨fun hres => ?_, fun hprofile hcls => ?_, fun hprofile => ?_⟩
  · exact step_of_fetch_raises hrun (hfetch.trans (fetchFrom_of_reserved _ hres))
  · have hp : ¬ s.params.Reads x := fun h => absurd (h hprofile) (not_le.2 hcls)
    exact step_of_fetch_refuses hrun (hfetch.trans (fetchFrom_of_not_reads _ hp))
  · have hp : s.params.Reads x := fun h => by rw [hprofile] at h; cases h
    obtain ⟨i, _, hdec, _⟩ | hres := decode_cases hp rest
    · rw [step_of_fetch_run hrun (hfetch.trans (fetchFrom_of_decode hdec))]
      exact exec_ne_loadStoreClass hrun.noIllegal
    · rw [step_of_fetch_raises hrun (hfetch.trans (fetchFrom_of_reserved _ hres))]
      nofun

end Sys2Proof.Machine
end

section
/-! PROOFS. Reserved encodings (O5 to O8): what no instruction encodes to does not decode. -/

namespace Sys2Proof

open Machine

/-! ### Classes of opcode bytes -/

/-- Class ALU or ALU64 (R65). -/
def IsArithOp (op : BitVec 8) : Prop := (op.extractLsb' 0 3).toNat = 4 ∨ (op.extractLsb' 0 3).toNat = 7

/-- The classes and forms whose `src_reg` names a register: LDX and STX, and `s` = 1 in the other classes (R72, R73,
R227, R229, R240). -/
def SrcNames (op : BitVec 8) : Prop :=
  (op.extractLsb' 0 3).toNat = 1 ∨ (op.extractLsb' 0 3).toNat = 3 ∨
    (4 ≤ (op.extractLsb' 0 3).toNat ∧ op.extractLsb' 3 1 = 1#1)

/-! ### What no instruction encodes to is reserved -/

section Absent

variable {p : Params} {x y : Slot} {more rest : List Slot} {i : Instr}

/-- A basic or an extended instruction has the used fields of its first slot. -/
theorem ReadFrom.fields_eq (h : ReadFrom p x more rest i) : i.fields = (x.fields p.hostEndian).used := by
  cases h with
  | basic _ _ hfields _ => exact hfields
  | extended hop _ hfields _ =>
    rw [hfields, Fields.used, Slot.fields_opcode, hop]
    rfl

/-- Where the profile reads the slot and no instruction is encoded with its used fields, the slot is reserved. -/
theorem reserved_of_absent (hp : p.Reads x)
    (h : ∀ i : Instr, i.wellFormed = true → i.fields.opcode = x.b0 → i.fields = (x.fields p.hostEndian).used → False) :
    Reserved p (x :: rest) := by
  obtain ⟨i, more, hdec, hread⟩ | hres := decode_cases hp rest
  · have hop : i.fields.opcode = x.b0 := by rw [hread.fields_eq]; exact Slot.fields_opcode _ _
    exact absurd hread.fields_eq (h i (decodedInstructionIsWellFormed p _ i more hdec).1 hop)
  · exact hres

theorem reads_of_supplement (h : p.ldstProfile = .supplement) : p.Reads x := fun hr => by rw [h] at hr; cases hr

/-- Opcode bytes of the arithmetic and jump classes. -/
theorem reads_of_mem {ops : List (BitVec 8)} (h : x.b0 ∈ ops)
    (hops : ∀ op ∈ ops, 4 ≤ (op.extractLsb' 0 3).toNat := by decide) : p.Reads x := fun _ => hops _ h

theorem reads_of_arith (h : IsArithOp x.b0) : p.Reads x := fun _ => by unfold IsArithOp at h; omega

end Absent

section Used

variable {x : Slot} (e : Endian)

theorem Slot.used_dst (h : (uses x.b0).dst = true) : (x.fields e).used.dst = (x.fields e).dst :=
  if_pos (by rwa [Slot.fields_opcode])

theorem Slot.used_src (h : (uses x.b0).src = true) : (x.fields e).used.src = (x.fields e).src :=
  if_pos (by rwa [Slot.fields_opcode])

theorem Slot.used_off (h : (uses x.b0).off = true) : (x.fields e).used.off = (x.fields e).off :=
  if_pos (by rwa [Slot.fields_opcode])

theorem Slot.used_imm (h : (uses x.b0).imm = true) : (x.fields e).used.imm = (x.fields e).imm :=
  if_pos (by rwa [Slot.fields_opcode])

end Used

/-! ### The tables, as the encoder has them

Each is a property of the encodings of all instructions, row by row. -/

namespace Instr

/-- R81: no code of an arithmetic or jump class is 0xe or 0xf. -/
theorem fields_code_lt (i : Instr) (h : 4 ≤ (i.fields.opcode.extractLsb' 0 3).toNat) :
    (i.fields.opcode.extractLsb' 4 4).toNat < 0xe := by
  cases i <;> simp_all [Instr.fields, kFields, xFields, mFields, lddwFields, legacyFields]

/-- R82: the forms that the "only" notes exclude. -/
theorem fields_opcode_notes (i : Instr) :
    i.fields.opcode ∉ [0x0d#8, 0x0e#8, 0x8d#8, 0x9d#8, 0x86#8, 0x8e#8, 0x96#8, 0x9e#8, 0xdf#8] := by
  cases i <;> simp [Instr.fields, kFields, xFields, mFields, lddwFields, legacyFields]

/-- R82: `src_reg` of JA and EXIT. -/
theorem fields_src_control (i : Instr) (h : i.fields.opcode ∈ [0x05#8, 0x06#8, 0x95#8]) : i.fields.src = 0 := by
  cases i <;> simp_all [Instr.fields, kFields, xFields, mFields, lddwFields, legacyFields]

/-- R78, R204: `src_reg` of CALL. -/
theorem fields_src_call (i : Instr) (h : i.fields.opcode = 0x85#8) : i.fields.src ∈ [0#4, 1#4, 2#4] := by
  cases i <;> simp_all [Instr.fields, kFields, xFields, mFields, lddwFields, legacyFields]

/-- The classes of the arithmetic instructions (R74). -/
theorem isArith_of_isArithOp {i : Instr} (h : IsArithOp i.fields.opcode) : i.isArith = true := by
  cases i <;> simp_all [IsArithOp, Instr.isArith, Instr.fields, kFields, xFields, mFields, lddwFields, legacyFields]

/-- R76: the offset selectors of each arithmetic code. -/
theorem fields_off_arith {i : Instr} (h : i.isArith = true) :
    i.fields.off ∈ (if (i.fields.opcode.extractLsb' 4 4).toNat = 3 ∨ (i.fields.opcode.extractLsb' 4 4).toNat = 9
      then [0#16, 1#16] else if (i.fields.opcode.extractLsb' 4 4).toNat = 0xb then [0#16, 8#16, 16#16, 32#16]
      else [0#16]) := by
  cases i <;> simp_all [Instr.isArith, Instr.fields, kFields, xFields]

/-- R77: the widths of END. -/
theorem fields_imm_end {i : Instr} (h : i.isArith = true) (hcode : (i.fields.opcode.extractLsb' 4 4).toNat = 0xd) :
    i.fields.imm ∈ [16#32, 32#32, 64#32] := by
  cases i <;> simp_all [Instr.isArith, Instr.fields, kFields, xFields]

/-- R84: the destination of an arithmetic instruction is what it writes. -/
theorem fieldWrite_arith {i : Instr} (h : i.isArith = true) :
    ∃ r, i.fieldWrite = some r ∧ i.fields.dst = r.nibble := by
  cases i <;> simp_all [Instr.isArith, Instr.fieldWrite, Instr.fields, kFields, xFields]

end Instr

@[simp] theorem Reg.nibble_toNat_le (r : Reg) : r.nibble.toNat ≤ 10 := by cases r <;> decide

theorem Reg.nibble_toNat_lt {r : Reg} (h : r ≠ .r10) : r.nibble.toNat < 10 := by
  cases r
  case r10 => exact absurd rfl h
  all_goals decide

namespace Instr

/-- R84: `dst_reg` names a register, but for the legacy packet loads, which have no operands (R235). -/
theorem fields_dst_le {i : Instr} (h : (i.fields.opcode.extractLsb' 0 3).toNat ≠ 0 ∨ i.fields.opcode = 0x18#8) :
    i.fields.dst.toNat ≤ 10 := by
  cases i <;> simp_all [Instr.fields, kFields, xFields, mFields, lddwFields, legacyFields]

/-- R84: there `src_reg` names a register, or is unused and 0. -/
theorem fields_src_le {i : Instr} (h : SrcNames i.fields.opcode) : i.fields.src.toNat ≤ 10 := by
  cases i <;> simp_all [SrcNames, Instr.fields, kFields, xFields, mFields, lddwFields, legacyFields]

end Instr

/-! ### The fields that the classes use (R83) -/

theorem uses_off_of_arith : ∀ op : BitVec 8, IsArithOp op → (uses op).off = true := by
  unfold IsArithOp; decide

theorem uses_imm_of_end : ∀ op : BitVec 8, IsArithOp op → (op.extractLsb' 4 4).toNat = 0xd → (uses op).imm = true := by
  unfold IsArithOp; decide

/-- `dst_reg` is used by all but JA, CALL and EXIT. -/
theorem uses_dst : ∀ op : BitVec 8, ((op.extractLsb' 0 3).toNat = 5 ∨ (op.extractLsb' 0 3).toNat = 6 →
    (op.extractLsb' 4 4).toNat ∉ [0, 8, 9]) → (uses op).dst = true := by
  decide

/-- `src_reg` is used where it names a register; END has its selector `s` = 1 for another meaning (R74). -/
theorem uses_src_of_srcNames : ∀ op : BitVec 8, SrcNames op → (IsArithOp op → (op.extractLsb' 4 4).toNat ≠ 0xd) →
    (uses op).src = true := by
  unfold SrcNames IsArithOp; decide

/-- `src_reg` of JA and EXIT is used, as a selector (R82). -/
theorem uses_src_of_control : ∀ op ∈ [0x05#8, 0x06#8, 0x95#8], (uses op).src = true := by
  decide

/-! ### Registers (R84) -/

section Registers

variable {p : Params} {x : Slot} {rest : List Slot}

/-- A used `dst_reg` with 11 to 15. -/
theorem reserved_of_dst (hp : p.Reads x) (hcls : (x.b0.extractLsb' 0 3).toNat ≠ 0 ∨ x.b0 = 0x18#8)
    (hu : (uses x.b0).dst = true) (h : 11 ≤ (x.fields p.hostEndian).dst.toNat) : Reserved p (x :: rest) := by
  refine reserved_of_absent hp fun i _ hop hf => ?_
  have hle := i.fields_dst_le (hop ▸ hcls)
  rw [hf, Slot.used_dst _ hu] at hle
  omega

/-- A used `src_reg` with 11 to 15. -/
theorem reserved_of_src (hp : p.Reads x) (hnames : SrcNames x.b0) (hu : (uses x.b0).src = true)
    (h : 11 ≤ (x.fields p.hostEndian).src.toNat) : Reserved p (x :: rest) := by
  refine reserved_of_absent hp fun i _ hop hf => ?_
  have hle := i.fields_src_le (hop ▸ hnames)
  rw [hf, Slot.used_src _ hu] at hle
  omega

/-- `dst_reg` 10 to 15 in an arithmetic instruction. -/
theorem reserved_of_arith_dst (harith : IsArithOp x.b0) (h : 10 ≤ (x.fields p.hostEndian).dst.toNat) :
    Reserved p (x :: rest) := by
  refine reserved_of_absent (reads_of_arith harith) fun i hw hop hf => ?_
  obtain ⟨r, hwrite, hdst⟩ := i.fieldWrite_arith (Instr.isArith_of_isArithOp (hop ▸ harith))
  have hlt := Reg.nibble_toNat_lt (Instr.wellFormed_fieldWrite hw hwrite)
  rw [← hdst, hf, Slot.used_dst _ (uses_dst _ fun hjump => by unfold IsArithOp at harith; omega)] at hlt
  omega

end Registers

/-! ### Conditional jumps that decode (R84) -/

/-- The codes of the conditional jumps (R75). -/
def jumpCodes : List Nat := [1, 2, 3, 4, 5, 6, 7, 0xa, 0xb, 0xc, 0xd]

/-- The opcode bytes with these codes, this bit `s` and this class (R71, R73). -/
def jumpOpcodes (s cls : Nat) : List (BitVec 8) := jumpCodes.map fun code => .ofNat 8 (16 * code + 8 * s + cls)

theorem mem_jumpOpcodes : ∀ op : BitVec 8, (op.extractLsb' 4 4).toNat ∈ jumpCodes →
    op ∈ jumpOpcodes (op.extractLsb' 3 1).toNat (op.extractLsb' 0 3).toNat := by
  unfold jumpOpcodes jumpCodes; decide

theorem decodeJmp_jumpK (p : Params) {op : BitVec 8} (h : op ∈ jumpOpcodes 0 5) :
    ∃ mk, ∀ dst src off imm, decodeJmp p ⟨op, dst, src, off, imm⟩ = jumpKForm ⟨op, dst, src, off, imm⟩ mk := by
  fin_cases h <;> exact ⟨_, fun _ _ _ _ => rfl⟩

theorem decodeJmp_jumpX (p : Params) {op : BitVec 8} (h : op ∈ jumpOpcodes 1 5) :
    ∃ mk, ∀ dst src off imm, decodeJmp p ⟨op, dst, src, off, imm⟩ = jumpXForm p ⟨op, dst, src, off, imm⟩ mk := by
  fin_cases h <;> exact ⟨_, fun _ _ _ _ => rfl⟩

theorem decodeJmp32_jumpK (p : Params) {op : BitVec 8} (h : op ∈ jumpOpcodes 0 6) :
    ∃ mk, ∀ dst src off imm, decodeJmp32 p ⟨op, dst, src, off, imm⟩ = jumpKForm ⟨op, dst, src, off, imm⟩ mk := by
  fin_cases h <;> exact ⟨_, fun _ _ _ _ => rfl⟩

theorem decodeJmp32_jumpX (p : Params) {op : BitVec 8} (h : op ∈ jumpOpcodes 1 6) :
    ∃ mk, ∀ dst src off imm, decodeJmp32 p ⟨op, dst, src, off, imm⟩ = jumpXForm p ⟨op, dst, src, off, imm⟩ mk := by
  fin_cases h <;> exact ⟨_, fun _ _ _ _ => rfl⟩

/-- R20, R25: the numbers 0 to 10 name registers. -/
theorem readReg_of_le {n : Nibble} (h : n.toNat ≤ 10) : ∃ r, readReg n = .ok r := by
  have hsome : ∀ n : Nibble, n.toNat ≤ 10 → (Reg.ofNibble n).isSome = true := by decide
  obtain ⟨r, hr⟩ := Option.isSome_iff_exists.1 (hsome n h)
  exact ⟨r, by rw [readReg, hr]⟩

theorem jumpKForm_ok {f : Fields} {mk : Reg → Nibble → Off → Imm → Instr} (hd : f.dst.toNat ≤ 10) :
    ∃ i, jumpKForm f mk = .ok i := by
  obtain ⟨r, hr⟩ := readReg_of_le hd
  exact ⟨_, by rw [jumpKForm, hr]; rfl⟩

theorem jumpXForm_ok {p : Params} {f : Fields} {mk : Reg → Reg → Off → Instr} (hd : f.dst.toNat ≤ 10)
    (hs : f.src.toNat ≤ 10) (himm : f.imm = 0) : ∃ i, jumpXForm p f mk = .ok i := by
  obtain ⟨r, hr⟩ := readReg_of_le hd
  obtain ⟨q, hq⟩ := readReg_of_le hs
  exact ⟨_, by rw [jumpXForm, unused_of_zero p (by rw [himm]; rfl), hr, hq]; rfl⟩

/-- R75, R84: a conditional jump decodes as soon as its register fields name registers and, in the X-form, `imm`
is 0. -/
theorem decodeBasic_jump_ok (p : Params) {f : Fields}
    (hcls : (f.opcode.extractLsb' 0 3).toNat = 5 ∨ (f.opcode.extractLsb' 0 3).toNat = 6)
    (hcode : (f.opcode.extractLsb' 4 4).toNat ∈ jumpCodes) (hd : f.dst.toNat ≤ 10)
    (hx : f.opcode.extractLsb' 3 1 = 0#1 ∨ (f.imm = 0 ∧ f.src.toNat ≤ 10)) : ∃ i, decodeBasic p f = .ok i := by
  obtain ⟨op, dst, src, off, imm⟩ := f
  have hmem := mem_jumpOpcodes op hcode
  by_cases hbit : op.extractLsb' 3 1 = 0#1
  · rcases hcls with hcls | hcls <;> rw [hbit, hcls] at hmem
    · obtain ⟨mk, hmk⟩ := decodeJmp_jumpK p hmem
      rw [decodeBasic_jmp p hcls, hmk]
      exact jumpKForm_ok hd
    · obtain ⟨mk, hmk⟩ := decodeJmp32_jumpK p hmem
      rw [decodeBasic_jmp32 p hcls, hmk]
      exact jumpKForm_ok hd
  · obtain ⟨himm, hsrc⟩ := hx.resolve_left hbit
    rcases hcls with hcls | hcls <;> rw [(BitVec.eq_zero_or_eq_one _).resolve_left hbit, hcls] at hmem
    · obtain ⟨mk, hmk⟩ := decodeJmp_jumpX p hmem
      rw [decodeBasic_jmp p hcls, hmk]
      exact jumpXForm_ok hd hsrc himm
    · obtain ⟨mk, hmk⟩ := decodeJmp32_jumpX p hmem
      rw [decodeBasic_jmp32 p hcls, hmk]
      exact jumpXForm_ok hd hsrc himm

/-! ### The statements -/

/-- Settles O5: no encoding is of these forms. -/
theorem onlyNoteFormsAreReserved : Obligations.OnlyNoteFormsAreReserved := by
  intro p x rest
  simp only [Slot.fields_opcode]
  refine ⟨fun h => ?_, fun h hsrc => ?_⟩
  · exact reserved_of_absent (reads_of_mem h) fun i _ hop _ => i.fields_opcode_notes (hop ▸ h)
  · refine reserved_of_absent (reads_of_mem h) fun i _ hop hf => hsrc ?_
    have hused : (x.fields p.hostEndian).used.src = _ := Slot.used_src _ (uses_src_of_control _ h)
    rw [← hused, ← hf, i.fields_src_control (hop ▸ h)]

/-- Settles O6: no encoding has such a code, such an offset, width or form. -/
theorem absentEncodingsAreReserved : Obligations.AbsentEncodingsAreReserved := by
  rintro p x rest f cls code rfl rfl rfl
  simp only [Slot.fields_opcode]
  refine ⟨fun hcls hcode => ?_, fun harith hoff => ?_, fun harith hcode himm => ?_, fun hcall hsrc => ?_⟩
  · refine reserved_of_absent (fun _ => hcls) fun i _ hop _ => ?_
    have hlt := i.fields_code_lt (hop ▸ hcls)
    rw [hop] at hlt
    omega
  · refine reserved_of_absent (reads_of_arith harith) fun i _ hop hf => hoff ?_
    have hmem := i.fields_off_arith (Instr.isArith_of_isArithOp (hop ▸ harith))
    rwa [hop, hf, Slot.used_off _ (uses_off_of_arith _ harith)] at hmem
  · refine reserved_of_absent (reads_of_arith harith) fun i _ hop hf => himm ?_
    have hmem := i.fields_imm_end (Instr.isArith_of_isArithOp (hop ▸ harith)) (hop ▸ hcode)
    rwa [hf, Slot.used_imm _ (uses_imm_of_end _ harith hcode)] at hmem
  · refine reserved_of_absent (fun _ => by rw [hcall]; decide) fun i _ hop hf => hsrc ?_
    have hmem := i.fields_src_call (hop.trans hcall)
    rwa [hf, Slot.used_src _ (by rw [hcall]; rfl)] at hmem

/-- Settles O7: no encoding has such register numbers, and a conditional jump with R10 decodes. -/
theorem registerNumbersAreReserved : Obligations.RegisterNumbersAreReserved := by
  rintro p x rest f cls code rfl rfl rfl
  simp only [Slot.fields_opcode]
  refine ⟨fun harith hdst => reserved_of_arith_dst harith hdst, fun harith hcode hx hsrc => ?_,
    fun hcls hcode => ⟨fun hdst => ?_, fun hx hsrc => ?_, fun hdst hx => ?_⟩, fun hprofile hcls hregs => ?_,
    fun hprofile hcls hdst => ?_⟩
  · have hnames : SrcNames x.b0 := .inr (.inr ⟨by omega, hx⟩)
    exact reserved_of_src (reads_of_arith harith) hnames (uses_src_of_srcNames _ hnames fun _ => hcode) hsrc
  · exact reserved_of_dst (fun _ => by omega) (.inl (by omega)) (uses_dst _ fun _ => by revert hcode; simp; omega) hdst
  · have hnames : SrcNames x.b0 := .inr (.inr ⟨by omega, hx⟩)
    exact reserved_of_src (fun _ => by omega) hnames
      (uses_src_of_srcNames _ hnames fun harith => by unfold IsArithOp at harith; omega) hsrc
  · obtain ⟨i, hi⟩ := decodeBasic_jump_ok p (f := x.fields p.hostEndian) (by rwa [Slot.fields_opcode])
      (by rwa [Slot.fields_opcode]) (by rw [hdst]; decide) (by rwa [Slot.fields_opcode])
    have hbasic : x.b0 ≠ 0x18#8 := fun h => by simp [h] at hcls
    exact ⟨i, by rw [decode_basic (fun _ => by omega) hbasic, hi]; rfl⟩
  · have hp : p.Reads x := reads_of_supplement hprofile
    rcases hregs with hdst | hsrc
    · exact reserved_of_dst hp (.inl (by omega)) (uses_dst _ fun _ => by omega) hdst
    · have hnames : SrcNames x.b0 := by unfold SrcNames; omega
      exact reserved_of_src hp hnames (uses_src_of_srcNames _ hnames fun harith => by unfold IsArithOp at harith; omega)
        hsrc
  · refine reserved_of_dst (reads_of_supplement hprofile) ?_ (uses_dst _ fun hjump => ?_) hdst
    · exact hcls.imp_left fun h => by omega
    · rcases hcls with h | h
      · omega
      · simp [h] at hjump

/-- Settles O8: an instruction that decodes from the two slots has `reserved` 0 in the second. -/
theorem reservedFieldMustBeZero : Obligations.ReservedFieldMustBeZero := by
  intro p x y rest hprofile hx hres
  obtain ⟨i, more, _, hread⟩ | hreserved := decode_cases (reads_of_supplement hprofile) (y :: rest)
  · cases hread with
    | basic hop => exact absurd (beq_iff_eq.1 hx) hop
    | extended _ _ _ hzero => exact absurd hzero hres
  · exact hreserved

end Sys2Proof
end

section
/-! PROOFS. Quotients and remainders at every width (O24): the results for a zero divisor are those that the formulas
for the other divisors give there. -/

namespace Sys2Proof.Machine

section Division

variable {w : Nat} (d s : BitVec w)

theorem divU_eq_ofNat : divU d s = .ofNat w (d.toNat / s.toNat) := by
  unfold divU
  split
  next h => simp [h]
  next => rfl

theorem modU_eq_ofNat : modU d s = .ofNat w (d.toNat % s.toNat) := by
  unfold modU
  split
  next h => simp [h]
  next => rfl

theorem divS_eq_ofInt : divS d s = .ofInt w (d.toInt.tdiv s.toInt) := by
  unfold divS
  split
  next h => simp [h]
  next => rfl

theorem modS_eq_ofInt : modS d s = .ofInt w (d.toInt.tmod s.toInt) := by
  unfold modS
  split
  next h => simp [h]
  next => rw [Int.tmod_def]

/-- The remainder of R123, R124 does not wrap. -/
theorem toNat_modU : (modU d s).toNat = d.toNat % s.toNat := by
  rw [modU_eq_ofNat, ← BitVec.umod_def, BitVec.toNat_umod]

/-- The remainder of R125, R126 does not wrap, even where the quotient does (the least value by -1). -/
theorem toInt_modS : (modS d s).toInt = d.toInt.tmod s.toInt := by
  rw [modS_eq_ofInt, ← BitVec.toInt_srem, BitVec.ofInt_toInt]

theorem divU_mul_add_modU : divU d s * s + modU d s = d :=
  calc divU d s * s + modU d s
      = .ofNat w (d.toNat / s.toNat) * .ofNat w s.toNat + .ofNat w (d.toNat % s.toNat) := by
        rw [divU_eq_ofNat, modU_eq_ofNat, BitVec.ofNat_toNat, BitVec.setWidth_eq]
    _ = .ofNat w d.toNat := by rw [← BitVec.ofNat_mul, ← BitVec.ofNat_add, Nat.div_add_mod']
    _ = d := by rw [BitVec.ofNat_toNat, BitVec.setWidth_eq]

theorem divS_mul_add_modS : divS d s * s + modS d s = d :=
  calc divS d s * s + modS d s
      = .ofInt w (d.toInt.tdiv s.toInt) * .ofInt w s.toInt + .ofInt w (d.toInt.tmod s.toInt) := by
        rw [divS_eq_ofInt, modS_eq_ofInt, BitVec.ofInt_toInt]
    _ = .ofInt w d.toInt := by rw [← BitVec.ofInt_mul, ← BitVec.ofInt_add, Int.tdiv_mul_add_tmod]
    _ = d := BitVec.ofInt_toInt

variable {d s}

theorem toNat_modU_lt (h : s ≠ 0) : (modU d s).toNat < s.toNat := by
  have hpos : 0 < s.toNat := Nat.pos_of_ne_zero fun h0 => h (BitVec.eq_of_toNat_eq h0)
  rw [toNat_modU]
  exact Nat.mod_lt _ hpos

theorem natAbs_modS_lt (h : s ≠ 0) : (modS d s).toInt.natAbs < s.toInt.natAbs := by
  have hne : s.toInt ≠ 0 := fun h0 => h (BitVec.eq_of_toInt_eq (by simpa using h0))
  rw [toInt_modS, Int.natAbs_tmod]
  exact Nat.mod_lt _ (Int.natAbs_pos.2 hne)

theorem modS_neg_iff (h : modS d s ≠ 0) : (modS d s).toInt < 0 ↔ d.toInt < 0 := by
  have hdvd : ¬ s.toInt ∣ d.toInt := fun hdvd => h <| by
    rw [modS_eq_ofInt, Int.tmod_eq_zero_of_dvd hdvd]; rfl
  have hsign : (modS d s).toInt.sign = d.toInt.sign := by rw [toInt_modS, Int.sign_tmod, if_neg hdvd]
  rw [← Int.sign_eq_neg_one_iff_neg, hsign, Int.sign_eq_neg_one_iff_neg]

end Division

/-- Settles O24: each law holds at every width. -/
theorem quotientAndRemainderFitTogether : Obligations.QuotientAndRemainderFitTogether :=
  ⟨fun D S => ⟨divU_mul_add_modU D S, divS_mul_add_modS D S⟩,
    fun D S => ⟨divU_mul_add_modU D S, divS_mul_add_modS D S⟩,
    fun _ _ h => ⟨toNat_modU_lt h, natAbs_modS_lt h, modS_neg_iff⟩,
    fun _ _ h => ⟨toNat_modU_lt h, natAbs_modS_lt h, modS_neg_iff⟩⟩

end Sys2Proof.Machine
end

section
/-! PROOFS. The reserved forms of the arithmetic instructions (O17, O19): NEG with `s` = 1, and the forms of MOVSX under
`STRICT_MOVSX`. -/

namespace Sys2Proof

open Machine

/-- Where the profile reads the slot and no instruction with its used fields is admitted by the parameters, the slot is
reserved. -/
theorem reserved_of_not_admitted {p : Params} {x : Slot} {rest : List Slot} (hp : p.Reads x)
    (h : ∀ i : Instr, i.fields = (x.fields p.hostEndian).used → i.admitted p = false) : Reserved p (x :: rest) := by
  obtain ⟨i, more, hdec, hread⟩ | hres := decode_cases hp rest
  · have hadm : i.admitted p = true := (decodedInstructionIsWellFormed p _ i more hdec).2
    rw [h i hread.fields_eq] at hadm
    cases hadm
  · exact hres

/-- R121, R122: NEG has no form with `s` = 1. -/
theorem Instr.fields_opcode_neg (i : Instr) : i.fields.opcode ∉ [0x8f#8, 0x8c#8] := by
  cases i <;> simp [Instr.fields, kFields, xFields, mFields, lddwFields, legacyFields]

/-- R133, R134: the opcode bytes and offset selectors of the forms that `STRICT_MOVSX` reserves. -/
def LaxMovsxFields (op : BitVec 8) (off : Off) : Prop :=
  (op ∈ [0xb7#8, 0xb4#8] ∧ off ∈ [8#16, 16#16, 32#16]) ∨ (op = 0xbc#8 ∧ off = 32#16)

theorem Instr.isLaxMovsx_of_fields {i : Instr} (h : LaxMovsxFields i.fields.opcode i.fields.off) :
    i.isLaxMovsx = true := by
  cases i <;> simp_all [LaxMovsxFields, Instr.isLaxMovsx, Instr.fields, kFields, xFields, mFields, lddwFields,
    legacyFields]

theorem LaxMovsxFields.isArithOp {op : BitVec 8} {off : Off} (h : LaxMovsxFields op off) : IsArithOp op := by
  rcases h with ⟨hop, _⟩ | ⟨rfl, _⟩
  · revert op; unfold IsArithOp; decide
  · exact .inl rfl

theorem reserved_of_laxMovsxFields {p : Params} {x : Slot} {rest : List Slot} (hstrict : p.strictMovsx = true)
    (h : LaxMovsxFields x.b0 (x.fields p.hostEndian).off) : Reserved p (x :: rest) := by
  refine reserved_of_not_admitted (reads_of_arith h.isArithOp) fun i hf => ?_
  have hop : i.fields.opcode = x.b0 := by rw [hf]; exact Slot.fields_opcode _ _
  have hoff : i.fields.off = (x.fields p.hostEndian).off := by
    rw [hf]; exact Slot.used_off _ (uses_off_of_arith _ h.isArithOp)
  have hlax : i.isLaxMovsx = true := Instr.isLaxMovsx_of_fields (by rwa [hop, hoff])
  simp [Instr.admitted, hstrict, hlax]

end Sys2Proof
end

section
/-! PROOFS. The arithmetic instructions (O17 to O21, O25): each reads its registers, writes its destination and goes to
the next slot. What the rules of 40_arithmetic.md say of an instruction follows from the one shape of its meaning. -/

namespace Sys2Proof.Machine

/-! ### Going to a slot -/

/-- After effects that leave `pc` and the program alone, `goto` ends as R163 says. -/
theorem State.goto_goesTo {s u : State} (hpc : u.pc = s.pc) (hprog : u.prog = s.prog) (t : Int) :
    s.GoesTo u t (u.goto t) := by
  have hlands : u.Lands t ↔ s.Lands t := by rw [State.Lands, State.Lands, hprog]
  refine ⟨fun h => State.goto_of_lands (hlands.2 h), fun h => ?_⟩
  rw [State.goto_of_not_lands (mt hlands.1 h), hpc]

theorem State.setReg_goesOn (s : State) (r : Reg) (v : Word) : s.GoesOn (s.setReg r v) ((s.setReg r v).advance 1) :=
  State.goto_goesTo (u := s.setReg r v) rfl rfl _

/-! ### Reading one or two registers, writing one -/

section Reads

variable {s : State} {dst a b : Reg} {v w : Word}

theorem State.readOne_goesOn (g : Word → Word) (ha : s.regs.get a = .written v) :
    s.GoesOn (s.setReg dst (g v)) (s.withReg a fun x => (s.setReg dst (g x)).advance 1) := by
  rw [State.withReg_written _ ha]
  exact State.setReg_goesOn ..

theorem State.readTwo_goesOn (g : Word → Word → Word) (ha : s.regs.get a = .written v)
    (hb : s.regs.get b = .written w) :
    s.GoesOn (s.setReg dst (g v w)) (s.withReg a fun x => s.withReg b fun y => (s.setReg dst (g x y)).advance 1) := by
  rw [State.withReg_written _ ha]
  exact State.readOne_goesOn (g v) hb

theorem State.readTwo_unwritten {k : Word → Word → Out} (ha : s.Written a) (hb : s.regs.get b = .unwritten) :
    (s.withReg a fun x => s.withReg b (k x)) = .next (s.faulted (.uninitRegister b s.pc)) := by
  obtain ⟨v, hv⟩ := ha
  rw [State.withReg_written _ hv]
  exact State.withReg_unwritten _ hb

end Reads

/-! ### The rules, shape by shape

The encoder's rows and the arms of `exec` are found by `rfl`. -/

section Rules

variable {mkK : Reg → Imm → Instr} {mkX : Reg → Reg → Instr} {mk : Reg → Instr} {op opK opX : BitVec 8}
  {off : Off} {imm : Imm}

theorem Alu64Rule.of_exec {f : Word → Word → Word}
    (encK : ∀ dst imm, (mkK dst imm).fields = kFields opK off dst imm := by exact fun _ _ => rfl)
    (encX : ∀ dst src, (mkX dst src).fields = xFields opX off dst src := by exact fun _ _ => rfl)
    (exK : ∀ dst imm s, exec (mkK dst imm) s = alu64K f dst imm s := by exact fun _ _ _ => rfl)
    (exX : ∀ dst src s, exec (mkX dst src) s = alu64X f dst src s := by exact fun _ _ _ => rfl) :
    Alu64Rule mkK mkX opK opX off f where
  encodingK := encK
  encodingX := encX
  resultK _ _ imm _ hD := exK .. ▸ State.readOne_goesOn (f · (immOperand imm)) hD
  resultX _ _ _ _ _ hD hS := exX .. ▸ State.readTwo_goesOn f hD hS
  unwrittenK _ _ _ h := exK .. ▸ State.withReg_unwritten _ h
  unwrittenX _ _ _ h := exX .. ▸ State.withReg_unwritten _ h
  unwrittenSrc _ _ _ hD h := exX .. ▸ State.readTwo_unwritten hD h

theorem Alu32Rule.of_exec {f : Half → Half → Half}
    (encK : ∀ dst imm, (mkK dst imm).fields = kFields opK off dst imm := by exact fun _ _ => rfl)
    (encX : ∀ dst src, (mkX dst src).fields = xFields opX off dst src := by exact fun _ _ => rfl)
    (exK : ∀ dst imm s, exec (mkK dst imm) s = alu32K f dst imm s := by exact fun _ _ _ => rfl)
    (exX : ∀ dst src s, exec (mkX dst src) s = alu32X f dst src s := by exact fun _ _ _ => rfl) :
    Alu32Rule mkK mkX opK opX off f where
  encodingK := encK
  encodingX := encX
  resultK _ _ imm _ hD := exK .. ▸ State.readOne_goesOn (fun x => zext (f (low x) imm)) hD
  resultX _ _ _ _ _ hD hS := exX .. ▸ State.readTwo_goesOn (fun x y => zext (f (low x) (low y))) hD hS
  unwrittenK _ _ _ h := exK .. ▸ State.withReg_unwritten _ h
  unwrittenX _ _ _ h := exX .. ▸ State.withReg_unwritten _ h
  unwrittenSrc _ _ _ hD h := exX .. ▸ State.readTwo_unwritten hD h

theorem MoveKRule.of_exec {f : Imm → Word}
    (enc : ∀ dst imm, (mkK dst imm).fields = kFields op off dst imm := by exact fun _ _ => rfl)
    (ex : ∀ dst imm s, exec (mkK dst imm) s = (s.setReg dst (f imm)).advance 1 := by exact fun _ _ _ => rfl) :
    MoveKRule mkK op off f where
  encoding := enc
  result _ _ _ := ex .. ▸ State.setReg_goesOn ..

theorem MoveXRule.of_exec {f : Word → Word}
    (enc : ∀ dst src, (mkX dst src).fields = xFields op off dst src := by exact fun _ _ => rfl)
    (ex : ∀ dst src s, exec (mkX dst src) s = s.withReg src fun v => (s.setReg dst (f v)).advance 1 := by
      exact fun _ _ _ => rfl) : MoveXRule mkX op off f where
  encoding := enc
  result _ _ _ _ h := ex .. ▸ State.readOne_goesOn f h
  unwritten _ _ _ h := ex .. ▸ State.withReg_unwritten _ h

theorem MoveKRule.congr {f g : Imm → Word} (h : MoveKRule mkK op off f) (hfg : ∀ imm, f imm = g imm) :
    MoveKRule mkK op off g := funext hfg ▸ h

theorem MoveXRule.congr {f g : Word → Word} (h : MoveXRule mkX op off f) (hfg : ∀ v, f v = g v) :
    MoveXRule mkX op off g := funext hfg ▸ h

theorem UnaryRule.of_exec {f : State → Word → Word}
    (enc : ∀ dst, (mk dst).fields = kFields op 0 dst imm := by exact fun _ => rfl)
    (ex : ∀ dst s, exec (mk dst) s = s.withReg dst fun v => (s.setReg dst (f s v)).advance 1 := by
      exact fun _ _ => rfl) : UnaryRule mk op imm f where
  encoding := enc
  result s _ _ h := ex .. ▸ State.readOne_goesOn (f s) h
  unwritten _ _ h := ex .. ▸ State.withReg_unwritten _ h

end Rules

/-! ### Shift amounts -/

/-- The mask of 6 bits takes the amount modulo 64. -/
theorem shiftAmount_word (S : Word) : shiftAmount S = S.toNat % 64 := Nat.and_two_pow_sub_one_eq_mod S.toNat 6

/-- The mask of 5 bits takes the amount modulo 32. -/
theorem shiftAmount_half (S : Half) : shiftAmount S = S.toNat % 32 := Nat.and_two_pow_sub_one_eq_mod S.toNat 5

/-! ### The operands of MOVSX -/

/-- The low bits of a sign-extended immediate are those of the immediate (R133). -/
theorem movsx_immOperand {n : Nat} (hn : n ≤ 32) (imm : Imm) :
    movsx n (immOperand imm) = (imm.setWidth n).signExtend 64 := by
  have hlow : (imm.signExtend 64).setWidth n = imm.setWidth n := by
    ext k hk
    have hk64 : k < 64 := by omega
    have hk32 : k < 32 := by omega
    simp [BitVec.getElem_signExtend, hk64, hk32]
  rw [movsx, immOperand, hlow]

/-- The low bits of a low half are those of the register (R132). -/
theorem movsx_low {n : Nat} (hn : n ≤ 32) (v : Word) : movsx n (low v) = (v.setWidth n).signExtend 32 := by
  rw [movsx, low, BitVec.setWidth_setWidth_of_le v hn]

/-- From 32 bits to 32 bits there is nothing to extend (R134). -/
theorem movsx_half (v : Half) : movsx 32 v = v := by
  rw [movsx, BitVec.setWidth_eq, BitVec.signExtend_eq]

/-! ### The statements -/

/-- Settles O17: eight shapes, and no instruction with the opcode bytes of NEG with `s` = 1. -/
theorem addSubMulNegResults : Obligations.AddSubMulNegResults := by
  refine ⟨.of_exec, .of_exec, .of_exec, .of_exec, .of_exec, .of_exec, .of_exec, .of_exec, fun p x rest h => ?_⟩
  have hmem : x.b0 ∈ [0x8f#8, 0x8c#8] := by simpa using h
  exact reserved_of_absent (reads_of_mem hmem) fun i _ hop _ => i.fields_opcode_neg (hop ▸ hmem)

/-- Settles O18: the two shapes of binary operations, three times each. -/
theorem orAndXorResults : Obligations.OrAndXorResults :=
  ⟨.of_exec, .of_exec, .of_exec, .of_exec, .of_exec, .of_exec⟩

/-- Settles O19: sixteen shapes, MOVSX with its operand's low bits taken from the register or `imm` itself, and the
forms reserved by `STRICT_MOVSX`. -/
theorem moveResults : Obligations.MoveResults := by
  refine ⟨.of_exec, .of_exec, .of_exec, .of_exec, .of_exec, .of_exec, .of_exec,
    .congr .of_exec fun v => congrArg zext (movsx_low (by decide) v),
    .congr .of_exec fun v => congrArg zext (movsx_low (by decide) v),
    .congr .of_exec fun v => congrArg zext (movsx_half (low v)),
    .congr .of_exec (movsx_immOperand (by decide)),
    .congr .of_exec (movsx_immOperand (by decide)),
    .congr .of_exec fun imm => (movsx_immOperand (by decide) imm).trans (by rw [BitVec.setWidth_eq]),
    .of_exec, .of_exec, .congr .of_exec fun imm => congrArg zext (movsx_half imm), fun p x rest hstrict h => ?_⟩
  rw [Slot.fields_opcode] at h
  exact reserved_of_laxMovsxFields hstrict h

/-- Settles O20: the shifts are those of the model with the amount of `shiftAmount` written out. -/
theorem shiftResults : Obligations.ShiftResults := by
  unfold Obligations.ShiftResults
  simp only [← shiftAmount_word, ← shiftAmount_half]
  exact ⟨.of_exec, .of_exec, .of_exec, .of_exec, .of_exec, .of_exec⟩

/-- Settles O21: the cases of a zero divisor stand in the definitions that `exec` uses. -/
theorem divisionResults : Obligations.DivisionResults :=
  ⟨.of_exec, .of_exec, .of_exec, .of_exec, .of_exec, .of_exec, .of_exec, .of_exec⟩

/-! ### Every arithmetic instruction -/

/-- Executing the instruction is reading its registers, writing one with a function of their values and going to the
next slot (R102). -/
def ComputesFrom (i : Instr) (s : State) : Prop :=
  ∃ (dst : Reg) (f : List Word → Word), exec i s = s.withRegs i.reads fun vs => (s.setReg dst (f vs)).advance 1

namespace ComputesFrom

variable {i : Instr} {s : State} {dst a b : Reg}

theorem none {v : Word} (hr : i.reads = []) (h : exec i s = (s.setReg dst v).advance 1) : ComputesFrom i s :=
  ⟨dst, fun _ => v, by rw [hr, h]; rfl⟩

theorem one {g : Word → Word} (hr : i.reads = [a])
    (h : exec i s = s.withReg a fun v => (s.setReg dst (g v)).advance 1) : ComputesFrom i s :=
  ⟨dst, fun vs => g (vs.getD 0 0), by rw [hr, h]; rfl⟩

theorem two {g : Word → Word → Word} (hr : i.reads = [a, b])
    (h : exec i s = s.withReg a fun v => s.withReg b fun w => (s.setReg dst (g v w)).advance 1) : ComputesFrom i s :=
  ⟨dst, fun vs => g (vs.getD 0 0) (vs.getD 1 0), by rw [hr, h]; rfl⟩

end ComputesFrom

theorem exec_computesFrom {i : Instr} (s : State) (h : i.isArith = true) : ComputesFrom i s := by
  cases i
  case mov64K | mov32K | movsx64K8 | movsx64K16 | movsx64K32 | movsx32K8 | movsx32K16 | movsx32K32 =>
    exact .none rfl rfl
  case add64X | add32X | sub64X | sub32X | mul64X | mul32X | div64X | div32X | sdiv64X | sdiv32X | or64X | or32X
    | and64X | and32X | lsh64X | lsh32X | rsh64X | rsh32X | mod64X | mod32X | smod64X | smod32X | xor64X | xor32X
    | arsh64X | arsh32X => exact .two rfl rfl
  case add64K | sub64K | mul64K | div64K | sdiv64K | or64K | and64K | lsh64K | rsh64K | mod64K | smod64K | xor64K
    | arsh64K | add32K | sub32K | mul32K | div32K | sdiv32K | or32K | and32K | lsh32K | rsh32K | mod32K | smod32K
    | xor32K | arsh32K | mov64X | mov32X | neg64 | neg32 | movsx64X8 | movsx64X16 | movsx64X32 | movsx32X8 | movsx32X16
    | movsx32X32 | tole16 | tole32 | tole64 | tobe16 | tobe32 | tobe64 | bswap16 | bswap32 | bswap64 =>
    exact .one rfl rfl
  all_goals cases h

theorem State.exists_values_of_written {s : State} {l : List Reg} (h : ∀ r ∈ l, s.Written r) :
    ∃ vs : List Word, l.map s.regs.get = vs.map RegVal.written := by
  induction l with
  | nil => exact ⟨[], rfl⟩
  | cons r rest ih =>
    obtain ⟨v, hv⟩ := h r (by simp)
    obtain ⟨vs, hvs⟩ := ih fun q hq => h q (by simp [hq])
    exact ⟨v :: vs, by simp [hv, hvs]⟩

/-- Settles O25: with its registers written, an arithmetic instruction writes its destination and goes on. -/
theorem arithmeticRaisesNothing : Obligations.ArithmeticRaisesNothing := by
  intro i s ha hw
  obtain ⟨dst, f, hexec⟩ := exec_computesFrom s ha
  obtain ⟨vs, hvs⟩ := State.exists_values_of_written hw
  refine ⟨s.setReg dst (f vs), rfl, rfl, ?_⟩
  rw [hexec, State.withRegs_written _ hvs]
  exact State.setReg_goesOn ..

end Sys2Proof.Machine
end

section
/-! PROOFS. The byte swaps (O22, O23): taking a value apart into bytes and putting bytes together are inverse to each
other, so reversing twice in between changes nothing; put together, the bytes are the concatenations of R157. -/

namespace Sys2Proof.Machine

/-! ### Bytes and words -/

/-- The first byte stands below those of the rest, as a concatenation of bit vectors has it. -/
theorem wordOf_cons {w : Nat} {x : BitVec w} {rest : List Byte} (b : Byte) (h : wordOf rest = x.setWidth 64) :
    wordOf (b :: rest) = (x ++ b).setWidth 64 := by
  ext j hj
  rw [wordOf, h]
  simp only [BitVec.getElem_or, BitVec.getElem_shiftLeft, BitVec.getElem_setWidth, BitVec.getLsbD_append]
  by_cases hlow : j < 8
  · simp [hlow]
  · simp [hlow, BitVec.getLsbD_of_ge b j (by omega)]

/-- Above the bytes of a word there are zeros. -/
theorem getLsbD_wordOf_of_ge (l : List Byte) {j : Nat} (h : 8 * l.length ≤ j) : (wordOf l).getLsbD j = false := by
  induction l generalizing j with
  | nil => simp [wordOf]
  | cons b rest ih =>
    rw [List.length_cons] at h
    simp [wordOf, ih (j := j - 8) (by omega), BitVec.getLsbD_of_ge b j (by omega)]

theorem extractLsb'_wordOf_cons (b : Byte) (rest : List Byte) : (wordOf (b :: rest)).extractLsb' 0 8 = b := by
  ext j hj
  have hj64 : j < 64 := by omega
  simp [wordOf, hj, hj64]

/-- Seven bytes are not cut off at 64 bits when another one goes below them. -/
theorem wordOf_cons_ushiftRight (b : Byte) {rest : List Byte} (h : rest.length ≤ 7) :
    wordOf (b :: rest) >>> 8 = wordOf rest := by
  ext j hj
  by_cases htop : 8 + j < 64
  · simp [wordOf, htop]
  · have hzero : (wordOf rest).getLsbD j = false := getLsbD_wordOf_of_ge rest (by omega)
    simp [wordOf, htop, ← BitVec.getLsbD_eq_getElem, hzero]

/-- Up to eight bytes put together and taken apart again. -/
theorem bytesOf_wordOf {l : List Byte} (h : l.length ≤ 8) : bytesOf l.length (wordOf l) = l := by
  induction l with
  | nil => rfl
  | cons b rest ih =>
    rw [List.length_cons] at h
    rw [List.length_cons, bytesOf_succ, extractLsb'_wordOf_cons, wordOf_cons_ushiftRight b (by omega), ih (by omega)]

/-! ### The two conversions of a width -/

/-- R156: the low bytes are the truncation to their width, zero-extended. -/
theorem lowBytes_eq_setWidth (n : Nat) (v : Word) : lowBytes n v = (v.setWidth (8 * n)).setWidth 64 := by
  ext j hj
  have hbit := getLsbD_wordOf_bytesOf n v j
  simpa [lowBytes, hj] using hbit

theorem lowBytes_eq_ofNat (n : Nat) (v : Word) : lowBytes n v = .ofNat 64 (v.toNat % 2 ^ (8 * n)) := by
  rw [lowBytes_eq_setWidth, ← BitVec.toNat_setWidth, BitVec.ofNat_toNat]

theorem lowBytes_eight (v : Word) : lowBytes 8 v = v := wordOf_bytesOf_eight v

theorem toNat_lowBytes_lt (n : Nat) (v : Word) : (lowBytes n v).toNat < 2 ^ (8 * n) := by
  rw [lowBytes_eq_ofNat, BitVec.toNat_ofNat]
  exact Nat.lt_of_le_of_lt (Nat.mod_le _ _) (Nat.mod_lt _ (Nat.two_pow_pos _))

/-- R157 at 16 bits. -/
theorem swapBytes_two (v : Word) : swapBytes 2 v = swap16 v := wordOf_cons _ (wordOf_singleton _)

/-- R157 at 32 bits. -/
theorem swapBytes_four (v : Word) : swapBytes 4 v = swap32 v :=
  wordOf_cons _ <| wordOf_cons _ <| wordOf_cons _ <| wordOf_singleton _

/-- R157 at 64 bits. -/
theorem swapBytes_eight (v : Word) : swapBytes 8 v = swap64 v := by
  have hbytes : swapBytes 8 v = (swap64 v).setWidth 64 :=
    wordOf_cons _ <| wordOf_cons _ <| wordOf_cons _ <| wordOf_cons _ <| wordOf_cons _ <| wordOf_cons _ <|
      wordOf_cons _ <| wordOf_singleton _
  rw [hbytes, BitVec.setWidth_eq]

section Widths

variable {n : Nat} (hn : n ≤ 8) (v : Word)

include hn

theorem bytesOf_lowBytes : bytesOf n (lowBytes n v) = bytesOf n v := by
  simpa [lowBytes] using bytesOf_wordOf (l := bytesOf n v) (by simpa using hn)

/-- R157: a swap reverses the low bytes. -/
theorem bytesOf_swapBytes : bytesOf n (swapBytes n v) = (bytesOf n v).reverse := by
  simpa [swapBytes] using bytesOf_wordOf (l := (bytesOf n v).reverse) (by simpa using hn)

theorem lowBytes_lowBytes : lowBytes n (lowBytes n v) = lowBytes n v := by
  rw [lowBytes, bytesOf_lowBytes hn, lowBytes]

/-- R156: a swap leaves zeros above its width. -/
theorem lowBytes_swapBytes : lowBytes n (swapBytes n v) = swapBytes n v := by
  rw [lowBytes, bytesOf_swapBytes hn, swapBytes]

theorem swapBytes_swapBytes : swapBytes n (swapBytes n v) = lowBytes n v := by
  rw [swapBytes, bytesOf_swapBytes hn, List.reverse_reverse, lowBytes]

theorem toNat_swapBytes_lt : (swapBytes n v).toNat < 2 ^ (8 * n) :=
  lowBytes_swapBytes hn v ▸ toNat_lowBytes_lt n _

/-- R157, byte by byte. -/
theorem extractLsb'_swapBytes {k : Nat} (hk : k < n) :
    (swapBytes n v).extractLsb' (8 * k) 8 = v.extractLsb' (8 * (n - 1 - k)) 8 := by
  have hbyte : (bytesOf n (swapBytes n v))[k]? = (bytesOf n v).reverse[k]? := by rw [bytesOf_swapBytes hn]
  simpa [bytesOf, hk] using hbyte

/-- R157: "the conversion is its own inverse". -/
theorem toLe_toLe (e : Endian) : toLe e n (toLe e n v) = lowBytes n v := by
  cases e with
  | little => exact lowBytes_lowBytes hn v
  | big => exact swapBytes_swapBytes hn v

theorem toBe_toBe (e : Endian) : toBe e n (toBe e n v) = lowBytes n v := by
  cases e with
  | little => exact swapBytes_swapBytes hn v
  | big => exact lowBytes_lowBytes hn v

end Widths

/-! ### The statements -/

section Rules

variable {e : Endian} {n : Nat} {v kept swapped : Word}

/-- R152, for what the two conversions give at the width. -/
theorem toLe_eq_ite (hkept : lowBytes n v = kept) (hswap : swapBytes n v = swapped) :
    toLe e n v = if e = .little then kept else swapped := by
  cases e with
  | little => exact hkept
  | big => exact hswap

/-- R153, for what the two conversions give at the width. -/
theorem toBe_eq_ite (hkept : lowBytes n v = kept) (hswap : swapBytes n v = swapped) :
    toBe e n v = if e = .big then kept else swapped := by
  cases e with
  | little => exact hswap
  | big => exact hkept

theorem UnaryRule.congr {mk : Reg → Instr} {op : BitVec 8} {imm : Imm} {f g : State → Word → Word}
    (h : UnaryRule mk op imm f) (hfg : ∀ s v, f s v = g s v) : UnaryRule mk op imm g :=
  funext₂ hfg ▸ h

end Rules

/-- Settles O22: nine shapes, with what the truncation and the swap give at each width. -/
theorem byteSwapResults : Obligations.ByteSwapResults :=
  ⟨.congr .of_exec fun _ v => toLe_eq_ite (lowBytes_eq_setWidth 2 v) (swapBytes_two v),
    .congr .of_exec fun _ v => toLe_eq_ite (lowBytes_eq_setWidth 4 v) (swapBytes_four v),
    .congr .of_exec fun _ v => toLe_eq_ite (lowBytes_eight v) (swapBytes_eight v),
    .congr .of_exec fun _ v => toBe_eq_ite (lowBytes_eq_setWidth 2 v) (swapBytes_two v),
    .congr .of_exec fun _ v => toBe_eq_ite (lowBytes_eq_setWidth 4 v) (swapBytes_four v),
    .congr .of_exec fun _ v => toBe_eq_ite (lowBytes_eight v) (swapBytes_eight v),
    .congr .of_exec fun _ v => swapBytes_two v,
    .congr .of_exec fun _ v => swapBytes_four v,
    .congr .of_exec fun _ v => swapBytes_eight v⟩

/-- Settles O23: the laws hold at every width of up to eight bytes. -/
theorem swapsReverseBytesAndAreInvolutions : Obligations.SwapsReverseBytesAndAreInvolutions := by
  intro n hmem e v
  have hn : n ≤ 8 := (by decide : ∀ n ∈ [2, 4, 8], n ≤ 8) n hmem
  rw [← lowBytes_eq_ofNat]
  exact ⟨toNat_swapBytes_lt hn v, fun _ hk => extractLsb'_swapBytes hn v hk, rfl, rfl, rfl, rfl,
    swapBytes_swapBytes hn v, toLe_toLe hn v e, toBe_toBe hn v e⟩

end Sys2Proof.Machine
end

section
/-! PROOFS. The jumps (O29 to O32): each reads its registers, compares what it read and goes to a slot, and nothing but
`pc` or the fault record changes. What the rules of 42_jump.md say of an instruction follows from the one shape of its
meaning. -/

namespace Sys2Proof.Machine

/-! ### The eleven conditions

The table of 42_jump.md as propositions about the operands, at either width. -/

section Conditions

variable {n : Nat} (D S : BitVec n)

theorem condEq_iff : condEq D S = true ↔ D = S := beq_iff_eq
theorem condNe_iff : condNe D S = true ↔ D ≠ S := by simp [condNe]
theorem condSet_iff : condSet D S = true ↔ D &&& S ≠ 0 := by simp [condSet]
theorem condGt_iff : condGt D S = true ↔ D.toNat > S.toNat := decide_eq_true_iff
theorem condGe_iff : condGe D S = true ↔ D.toNat ≥ S.toNat := decide_eq_true_iff
theorem condLt_iff : condLt D S = true ↔ D.toNat < S.toNat := decide_eq_true_iff
theorem condLe_iff : condLe D S = true ↔ D.toNat ≤ S.toNat := decide_eq_true_iff
theorem condSgt_iff : condSgt D S = true ↔ D.toInt > S.toInt := decide_eq_true_iff
theorem condSge_iff : condSge D S = true ↔ D.toInt ≥ S.toInt := decide_eq_true_iff
theorem condSlt_iff : condSlt D S = true ↔ D.toInt < S.toInt := decide_eq_true_iff
theorem condSle_iff : condSle D S = true ↔ D.toInt ≤ S.toInt := decide_eq_true_iff

end Conditions

/-! ### Reading one or two registers, comparing, jumping -/

section Reads

variable {s : State} {a b : Reg} {v w : Word} {off : Off}

/-- A branch on a decided condition jumps where the condition holds and goes on where it does not (R163). -/
theorem State.branch_jumpsIf {taken : Bool} {C : Prop} (hC : taken = true ↔ C) :
    s.JumpsIf C off (s.branch taken (offDisp off)) := by
  rw [State.branch_eq]
  refine ⟨fun holds => ?_, fun fails => ?_⟩
  · rw [if_pos (hC.2 holds)]
    exact State.goto_goesTo rfl rfl _
  · rw [if_neg (mt hC.1 fails)]
    exact State.goto_goesTo rfl rfl _

theorem State.readOne_jumpsIf {C : Prop} (c : Word → Bool) (ha : s.regs.get a = .written v) (hC : c v = true ↔ C) :
    s.JumpsIf C off (s.withReg a fun x => s.branch (c x) (offDisp off)) := by
  rw [State.withReg_written _ ha]
  exact State.branch_jumpsIf hC

theorem State.readTwo_jumpsIf {C : Prop} (c : Word → Word → Bool) (ha : s.regs.get a = .written v)
    (hb : s.regs.get b = .written w) (hC : c v w = true ↔ C) :
    s.JumpsIf C off (s.withReg a fun x => s.withReg b fun y => s.branch (c x y) (offDisp off)) := by
  rw [State.withReg_written _ ha]
  exact State.readOne_jumpsIf (c v) hb hC

end Reads

/-! ### The rules, shape by shape

The encoder's rows and the arms of `exec` are found by `rfl`. -/

section Rules

variable {mkK : Reg → Nibble → Off → Imm → Instr} {mkX : Reg → Reg → Off → Instr} {opK opX : BitVec 8}

theorem Jump64Rule.of_exec {c : Word → Word → Bool} {C : Word → Word → Prop} (hC : ∀ D S, c D S = true ↔ C D S)
    (encK : ∀ dst anySrc off imm, (mkK dst anySrc off imm).fields = ⟨opK, dst.nibble, anySrc, off, imm⟩ := by
      exact fun _ _ _ _ => rfl)
    (encX : ∀ dst src off, (mkX dst src off).fields = mFields opX dst src off 0 := by exact fun _ _ _ => rfl)
    (exK : ∀ dst anySrc off imm s, exec (mkK dst anySrc off imm) s = jump64K c dst off imm s := by
      exact fun _ _ _ _ _ => rfl)
    (exX : ∀ dst src off s, exec (mkX dst src off) s = jump64X c dst src off s := by exact fun _ _ _ _ => rfl) :
    Jump64Rule mkK mkX opK opX C where
  encodingK := encK
  encodingX := encX
  jumpK _ _ _ _ imm _ hD := exK .. ▸ State.readOne_jumpsIf (c · (immOperand imm)) hD (hC ..)
  jumpX _ _ _ _ _ _ hD hS := exX .. ▸ State.readTwo_jumpsIf c hD hS (hC ..)
  unwrittenK _ _ _ _ _ h := exK .. ▸ State.withReg_unwritten _ h
  unwrittenX _ _ _ _ h := exX .. ▸ State.withReg_unwritten _ h
  unwrittenSrc _ _ _ _ hD h := exX .. ▸ State.readTwo_unwritten hD h

theorem Jump32Rule.of_exec {c : Half → Half → Bool} {C : Half → Half → Prop} (hC : ∀ D S, c D S = true ↔ C D S)
    (encK : ∀ dst anySrc off imm, (mkK dst anySrc off imm).fields = ⟨opK, dst.nibble, anySrc, off, imm⟩ := by
      exact fun _ _ _ _ => rfl)
    (encX : ∀ dst src off, (mkX dst src off).fields = mFields opX dst src off 0 := by exact fun _ _ _ => rfl)
    (exK : ∀ dst anySrc off imm s, exec (mkK dst anySrc off imm) s = jump32K c dst off imm s := by
      exact fun _ _ _ _ _ => rfl)
    (exX : ∀ dst src off s, exec (mkX dst src off) s = jump32X c dst src off s := by exact fun _ _ _ _ => rfl) :
    Jump32Rule mkK mkX opK opX C where
  encodingK := encK
  encodingX := encX
  jumpK _ _ _ _ imm _ hD := exK .. ▸ State.readOne_jumpsIf (fun x => c (low x) imm) hD (hC ..)
  jumpX _ _ _ _ _ _ hD hS := exX .. ▸ State.readTwo_jumpsIf (fun x y => c (low x) (low y)) hD hS (hC ..)
  unwrittenK _ _ _ _ _ h := exK .. ▸ State.withReg_unwritten _ h
  unwrittenX _ _ _ _ h := exX .. ▸ State.withReg_unwritten _ h
  unwrittenSrc _ _ _ _ hD h := exX .. ▸ State.readTwo_unwritten hD h

end Rules

/-! ### The frame of the jumps -/

/-- No jump is a store or writes a register field. -/
theorem Instr.isJump_disjoint (i : Instr) : (i.isJump && (i.isStore || i.fieldWrite.isSome)) = false := by
  cases i <;> rfl

/-- A jump has no effect of its own before it goes to its slot (R163, R191). -/
theorem Did.eq_of_isJump {i : Instr} {s u : State} (h : Did i s u) (hj : i.isJump = true) : u = s := by
  have hdisj := Instr.isJump_disjoint i
  simp only [hj, Bool.true_and, Bool.or_eq_false_iff] at hdisj
  obtain ⟨hstore, hwrite⟩ := hdisj
  cases h with
  | jumped => rfl
  | wrote _ _ hw | loaded _ _ _ _ hw => simp [hw] at hwrite
  | stored _ _ _ hs | updated _ _ _ hs | fetched _ _ _ _ _ hs | exchanged _ _ _ _ hs | compared _ _ _ hs =>
    simp [hstore] at hs
  | called _ _ hi | returned _ _ hi => subst hi; cases hj
  | helped _ _ hi => obtain ⟨_, rfl | rfl⟩ := hi <;> cases hj

/-! ### The statements -/

/-- Settles O29: the target is the one `goto` is given, and `goto` checks it. -/
theorem unconditionalJumps : Obligations.UnconditionalJumps :=
  ⟨fun _ => rfl, fun _ _ => State.goto_goesTo rfl rfl _, fun _ => rfl, fun _ _ => State.goto_goesTo rfl rfl _⟩

/-- Settles O30: the shape of class JMP with each of the eleven conditions. -/
theorem conditionalJumps64 : Obligations.ConditionalJumps64 :=
  ⟨.of_exec condEq_iff, .of_exec condGt_iff, .of_exec condGe_iff, .of_exec condSet_iff, .of_exec condNe_iff,
    .of_exec condSgt_iff, .of_exec condSge_iff, .of_exec condLt_iff, .of_exec condLe_iff, .of_exec condSlt_iff,
    .of_exec condSle_iff⟩

/-- Settles O31: the shape of class JMP32 with each of the eleven conditions. -/
theorem conditionalJumps32 : Obligations.ConditionalJumps32 :=
  ⟨.of_exec condEq_iff, .of_exec condGt_iff, .of_exec condGe_iff, .of_exec condSet_iff, .of_exec condNe_iff,
    .of_exec condSgt_iff, .of_exec condSge_iff, .of_exec condLt_iff, .of_exec condLe_iff, .of_exec condSlt_iff,
    .of_exec condSle_iff⟩

/-- Settles O32: a jump raises a fault, or goes to a slot from the state it started in. -/
theorem jumpFrame : Obligations.JumpFrame := by
  intro i s t hj h
  rcases exec_cases h with ⟨f, rfl⟩ | ⟨rfl, _⟩ | ⟨u, target, did, hgoto⟩
  · exact .inr rfl
  · cases hj
  · obtain rfl := did.eq_of_isJump hj
    rcases State.goto_cases hgoto with ⟨_, rfl⟩ | ⟨_, rfl⟩
    · exact .inl rfl
    · exact .inr rfl

end Sys2Proof.Machine
end

section
/-! PROOFS. The program-local CALL and EXIT (O33 to O36): what each does in each of its cases, and what a CALL and the
EXIT that matches it do together. -/

namespace Sys2Proof.Machine

/-! ### CALL local -/

section CallLocal

variable {s u : State} {imm : Imm} {fp : Word}

theorem exec_callLocal_badTarget (hfp : s.Written .r10) (hland : ¬ s.Lands (s.target (immDisp imm))) :
    exec (.callLocal imm) s = .next (s.faulted (.badJumpTarget s.pc (s.target (immDisp imm)))) := by
  obtain ⟨fp, hfp⟩ := hfp
  exact (State.withReg_written _ hfp).trans (if_neg (mt (State.goto_check_iff ..).1 hland))

theorem exec_callLocal_tooDeep (hfp : s.Written .r10) (hland : s.Lands (s.target (immDisp imm)))
    (hdepth : s.stack.length = s.params.maxCallDepth) :
    exec (.callLocal imm) s = .next (s.faulted (.callDepthExceeded s.pc)) := by
  obtain ⟨fp, hfp⟩ := hfp
  exact (State.withReg_written _ hfp).trans ((if_pos ((State.goto_check_iff ..).2 hland)).trans (if_pos hdepth))

theorem exec_callLocal_enters (hfp : s.regs.get .r10 = .written fp) (hland : s.Lands (s.target (immDisp imm)))
    (hdepth : s.stack.length ≠ s.params.maxCallDepth) :
    exec (.callLocal imm) s = .next { s.enter fp with pc := (s.target (immDisp imm)).toNat } :=
  calc exec (.callLocal imm) s
    _ = (s.enter fp).goto (s.target (immDisp imm)) :=
      (State.withReg_written _ hfp).trans ((if_pos ((State.goto_check_iff ..).2 hland)).trans (if_neg hdepth))
    _ = .next { s.enter fp with pc := (s.target (immDisp imm)).toNat } := State.goto_of_lands hland

/-- A CALL local that records no fault has read R10 and pushed the frame of its caller (R202). -/
theorem exec_callLocal_pushes (h : exec (.callLocal imm) s = .next u) (hu : u.fault = none) :
    ∃ fp, s.regs.get .r10 = .written fp ∧ u.stack = s.frame fp :: s.stack := by
  cases hfp : s.regs.get .r10 with
  | unwritten =>
    cases h.symm.trans (State.withReg_unwritten _ hfp)
    cases hu
  | written fp =>
    by_cases hland : s.Lands (s.target (immDisp imm))
    · by_cases hdepth : s.stack.length = s.params.maxCallDepth
      · cases h.symm.trans (exec_callLocal_tooDeep ⟨fp, hfp⟩ hland hdepth)
        cases hu
      · cases h.symm.trans (exec_callLocal_enters hfp hland hdepth)
        exact ⟨fp, rfl, rfl⟩
    · cases h.symm.trans (exec_callLocal_badTarget ⟨fp, hfp⟩ hland)
      cases hu

end CallLocal

/-- Settles O33: the checks of R202 in their order, and the entry of the callee where all of them pass. -/
theorem callLocalEffect : Obligations.CallLocalEffect :=
  ⟨fun _ => rfl, fun _ _ hfp => State.withReg_unwritten _ hfp, fun _ _ => exec_callLocal_badTarget,
    fun _ _ => exec_callLocal_tooDeep, fun _ _ _ => exec_callLocal_enters⟩

/-! ### EXIT -/

section Exit

variable {s : State} {f : Frame} {rest : List Frame}

theorem exec_exit_outermost {v : Word} (hv : s.regs.get .r0 = .written v) (hstack : s.stack = []) :
    exec .exit s = .next { s with result := some v } :=
  calc exec .exit s
    _ = s.finish v := (State.withReg_written _ hv).trans (by rw [hstack])
    _ = .next { s with result := some v } := rfl

theorem exec_exit_leaves (h0 : s.Written .r0) (hstack : s.stack = f :: rest) :
    exec .exit s = (s.leave f rest).goto (f.ret : Int) := by
  obtain ⟨v, hv⟩ := h0
  refine (State.withReg_written _ hv).trans ?_
  rw [hstack]

end Exit

/-- Settles O34: R0 is read first, then the call stack decides. -/
theorem exitEffect : Obligations.ExitEffect := by
  refine ⟨rfl, fun _ h0 => State.withReg_unwritten _ h0, fun _ _ => exec_exit_outermost, fun s f rest h0 hstack => ?_⟩
  rw [exec_exit_leaves h0 hstack]
  exact State.goto_goesTo (u := s.leave f rest) rfl rfl _

/-! ### The end of a run -/

/-- Of all instructions, only EXIT with an empty call stack leaves a result (R206). -/
theorem Ends.exit_of_result {i : Instr} {s t : State} (h : Ends i s t) (hs : s.result = none) (ht : t.result ≠ none) :
    i = .exit ∧ s.stack = [] ∧ ∃ v, s.regs.get .r0 = .written v ∧ t = { s with result := some v } := by
  rcases h with ⟨f, rfl⟩ | hexit | ⟨u, target, did, hgoto⟩
  · exact absurd hs ht
  · exact hexit
  · rw [State.goto_frame hgoto] at ht
    exact absurd (did.result.trans hs) ht

/-- Settles O35: EXIT gives the result and nothing else that a step can do does; the state it leaves is final by O16. -/
theorem runEndsExactlyAtOutermostExit : Obligations.RunEndsExactlyAtOutermostExit := by
  refine ⟨fun s v hrun hfetch hstack hv => ?_, fun s t h ht => ?_⟩
  · rw [step_of_fetch_run hrun hfetch, exec_exit_outermost hv hstack]
  · obtain ⟨hfault, hresult⟩ := State.running_of_step h
    obtain ⟨_, ⟨i, hfetch, hexec⟩ | ⟨f, _, rfl⟩⟩ := step_cases h
    · obtain ⟨rfl, hstack, v, hv, rfl⟩ := (exec_cases hexec).exit_of_result hresult ht
      exact ⟨v, hfetch, hstack, hv, rfl, stoppedRunHasNoStep.2 _ v hfault rfl⟩
    · exact absurd hresult ht

/-! ### A CALL and the EXIT that matches it -/

/-- Leaving through the frame that a CALL in `s` pushed gives R6 to R10 their values in `s` back (R202, R205). -/
theorem State.leave_frame_restores {s : State} {fp : Word} (w : State) (rest : List Frame)
    (hfp : s.regs.get .r10 = .written fp) :
    ∀ r ∈ [Reg.r6, .r7, .r8, .r9, .r10], (w.leave (s.frame fp) rest).regs.get r = s.regs.get r := by
  simpa [State.leave, State.frame, Regs.get] using hfp.symm

theorem State.leave_drops_args (w : State) (f : Frame) (rest : List Frame) :
    ∀ r ∈ [Reg.r1, .r2, .r3, .r4, .r5], (w.leave f rest).regs.get r = .unwritten := by
  simp [State.leave, Regs.dropArgs, Regs.get]

/-- Settles O36: the frame on top of the call stack is the one the CALL pushed, so leaving restores the caller, and its
return slot is the one after the CALL. -/
theorem callAndMatchingExitRestoreTheCaller : Obligations.CallAndMatchingExitRestoreTheCaller := by
  intro s u w t imm _ hcall hu hstack h0 hexit
  obtain ⟨fp, hfp, hpush⟩ := exec_callLocal_pushes hcall hu
  rw [exec_exit_leaves h0 (hstack.trans hpush)] at hexit
  rw [State.goto_frame hexit]
  refine ⟨State.leave_frame_restores w s.stack hfp, State.leave_drops_args w (s.frame fp) s.stack, rfl, rfl,
    fun hprog hfault hland => ?_⟩
  have hback : (w.leave (s.frame fp) s.stack).Lands ((s.frame fp).ret : Int) := (State.lands_congr hprog).2 hland
  cases hexit.symm.trans (State.goto_of_lands hback)
  exact ⟨rfl, hfault⟩

end Sys2Proof.Machine
end

section
/-! PROOFS. The helper calls (O37): the entry that a map has for an ID, what the helper does by its relation, and what
its return leaves. -/

namespace Sys2Proof.Machine

/-! ### The relation of a helper -/

section Relation

variable {s : State} {h : Helper} {args : List Word}

/-- Where the relation of a helper allows some outcome, what the helper does is allowed (R201). -/
theorem helperOutcome_relates (kind : HelperKind) (hsome : ∃ o, s.HelperRelates h args o) :
    s.HelperRelates h args (helperOutcome s kind h args) := by
  obtain ⟨o, ho⟩ := hsome
  rcases helperOutcome_cases s kind h args with ⟨hnil, _⟩ | hmem
  · rw [← mem_allowedOutcomes_iff, hnil] at ho
    cases ho
  · exact mem_allowedOutcomes_iff.1 hmem

theorem helperOutcome_of_unique {o : HelperOutcome} (kind : HelperKind) (hone : ∀ p, s.HelperRelates h args p ↔ p = o) :
    helperOutcome s kind h args = o :=
  (hone _).1 (helperOutcome_relates kind ⟨o, (hone o).2 rfl⟩)

/-- Where nothing is known of the relation, what the helper does is the free value (log entry 11). -/
theorem helperOutcome_of_unknown (kind : HelperKind) (hnone : ∀ o, ¬ s.HelperRelates h args o) :
    helperOutcome s kind h args = Config.helperAnswer s.draws kind h.id args (admittedCells s s.mem) := by
  rcases helperOutcome_cases s kind h args with ⟨_, hfree⟩ | hmem
  · exact hfree
  · exact absurd (mem_allowedOutcomes_iff.1 hmem) (hnone _)

end Relation

/-! ### What a helper does -/

/-- The state that a helper's return leaves before the next instruction. -/
def State.helped (s : State) (r0 : Word) (cells : List Host.Cell) : State :=
  { s with
    regs := s.regs.dropArgs.set .r0 (.written r0)
    mem := Memory.storeCells s.mem (admittedCells s cells)
    draws := s.draws + 1 }

/-- A helper's return is that state and the next slot (R201). -/
theorem helperReturn_eq (s : State) (r0 : Word) (cells : List Host.Cell) :
    helperReturn s r0 cells = (s.helped r0 cells).advance 1 := rfl

/-- Where a helper's answer has no admitted byte for an address, memory is as it was (R48). -/
theorem State.byteAt_helped_outside {s : State} {cells : List Host.Cell} {a : Nat} (r0 : Word)
    (ha : ∀ c ∈ cells, c.1 = a → s.admits a = false) : (s.helped r0 cells).byteAt a = s.byteAt a := by
  refine State.byteAt_congr (Memory.lookup_storeCells_outside _ _ _ fun c hc hca => ?_)
  obtain ⟨hmem, hadm⟩ := List.mem_filter.1 hc
  rw [hca, ha c hmem hca] at hadm
  cases hadm

/-- Of the bytes a helper writes to an admitted address the last one stands. -/
theorem State.byteAt_helped_last {s : State} {a : Nat} (r0 : Word) (pre : List Host.Cell) (v : Byte)
    {post : List Host.Cell} (hadm : s.admits a = true) (hpost : ∀ c ∈ post, c.1 ≠ a) :
    (s.helped r0 (pre ++ (a, v) :: post)).byteAt a = v := by
  have hcells : admittedCells s (pre ++ (a, v) :: post) = admittedCells s pre ++ (a, v) :: admittedCells s post := by
    simp [admittedCells, hadm]
  refine State.byteAt_of_lookup ?_
  rw [State.helped, hcells]
  exact Memory.lookup_storeCells_last _ _ _ _ fun c hc => hpost c (List.mem_filter.1 hc).1

theorem State.helperReturns_helped (s : State) (r0 : Word) (cells : List Host.Cell) :
    s.HelperReturns (s.helped r0 cells) r0 cells := by
  refine ⟨rfl, Regs.get_set_same s.regs.dropArgs .r0 _, ?_, Regs.get_helperReturn s.regs _,
    fun a => State.byteAt_helped_outside r0, ?_⟩
  · simp [State.helped]
  · rintro pre a v post rfl hadm hpost
    exact State.byteAt_helped_last r0 pre v hadm hpost

theorem State.helperDoes_helperAnswer (s : State) (id : Imm) (o : HelperOutcome) :
    s.HelperDoes id o (helperAnswer s id o) := by
  cases o with
  | returns r0 cells =>
    refine ⟨s.helped r0 cells, s.helperReturns_helped r0 cells, ?_⟩
    rw [helperAnswer, helperReturn_eq]
    exact State.goto_goesTo (u := s.helped r0 cells) rfl rfl _
  | faults code => rfl
  | stuck => rfl

/-! ### The two maps -/

theorem helperFound.find?_eq {h : Helper} {id : Imm} {table : List Helper} (hfound : helperFound h id table) :
    (table.find? fun g => g.id == id) = some h := by
  obtain ⟨pre, post, rfl, hid, hpre⟩ := hfound
  exact List.find?_eq_some_iff_append.2 ⟨by simpa using hid, pre, post, rfl, by simpa using hpre⟩

section CallHelper

variable {s : State} {kind : HelperKind} {id : Imm} {h : Helper} {args : List Word}

theorem callHelper_unknown (hnone : ∀ h ∈ Params.helperTable s.params kind, h.id ≠ id) :
    callHelper kind id s = .next (s.faulted (.unknownHelper s.pc id)) := by
  have hfind : ((Params.helperTable s.params kind).find? fun h => h.id == id) = none :=
    List.find?_eq_none.2 (by simpa using hnone)
  rw [callHelper, hfind]
  rfl

/-- The entry the map has for the ID reads its argument registers and does what its relation allows (R201, R267). -/
theorem callHelper_of_found (hfound : helperFound h id (Params.helperTable s.params kind)) :
    callHelper kind id s =
      s.withRegs (argRegs h) fun args => helperAnswer s id (helperOutcome s kind h args) := by
  rw [callHelper, hfound.find?_eq]

theorem callHelper_does (hfound : helperFound h id (Params.helperTable s.params kind))
    (hargs : (argRegs h).map s.regs.get = args.map .written) :
    s.HelperDoes id (helperOutcome s kind h args) (callHelper kind id s) := by
  rw [callHelper_of_found hfound, State.withRegs_written _ hargs]
  exact s.helperDoes_helperAnswer id _

theorem callHelper_does_unique {o : HelperOutcome} (hfound : helperFound h id (Params.helperTable s.params kind))
    (hargs : (argRegs h).map s.regs.get = args.map .written) (hone : ∀ p, s.HelperRelates h args p ↔ p = o) :
    s.HelperDoes id o (callHelper kind id s) :=
  helperOutcome_of_unique kind hone ▸ callHelper_does hfound hargs

end CallHelper

/-- R201 over either map; the encoder's row and the arm of `exec` are found by `rfl`. -/
theorem HelperRule.of_exec {mk : Imm → Instr} {form : Nibble} (kind : HelperKind)
    (enc : ∀ id, (mk id).fields = ⟨0x85, 0, form, 0, id⟩ := by exact fun _ => rfl)
    (ex : ∀ id s, exec (mk id) s = callHelper kind id s := by exact fun _ _ => rfl) :
    HelperRule mk form kind fun p => Params.helperTable p kind where
  encoding := enc
  unknown s id hnone := ex id s ▸ callHelper_unknown hnone
  unwritten s id h pre r post hfound hregs hpre hr := by
    rw [ex, callHelper_of_found hfound, hregs, State.withRegs_first_unwritten post _ hpre hr]
  related s id h args hfound hargs hsome :=
    ⟨helperOutcome s kind h args, helperOutcome_relates kind hsome, ex id s ▸ callHelper_does hfound hargs⟩
  returns s id h args r0 cells hfound hargs hone := ex id s ▸ callHelper_does_unique hfound hargs hone
  faults s id h args code hfound hargs hone := ex id s ▸ callHelper_does_unique hfound hargs hone
  stuck s id h args hfound hargs hone := ex id s ▸ callHelper_does_unique hfound hargs hone
  anyOutcome s id h args hfound hargs hnone := by
    have hdoes := callHelper_does hfound hargs
    obtain ⟨_, _, _, hid, _⟩ := hfound
    rwa [helperOutcome_of_unknown kind hnone, hid, ← ex] at hdoes

/-- Settles O37: one rule, over the map of static IDs and over the map of BTF IDs. -/
theorem helperCallEffects : Obligations.HelperCallEffects :=
  ⟨.of_exec .static, .of_exec .btf⟩

end Sys2Proof.Machine
end

section
/-! PROOFS. Encodings of the supplement (O9, O40, O42, O45): opcode bytes, subtypes and selectors that no instruction
of classes LD, LDX and STX has, and the legacy packet loads, which are decoded and refused. -/

namespace Sys2Proof

open Machine

/-! ### The tables, as the encoder has them -/

/-- R240: the selectors of the atomic operations. -/
def atomicSelectors : List Imm :=
  [0x00#32, 0x40#32, 0x50#32, 0xa0#32, 0x01#32, 0x41#32, 0x51#32, 0xa1#32, 0xe1#32, 0xf1#32]

/-- R235: the opcode bytes of the legacy packet loads. -/
def legacyOpcodes : List (BitVec 8) := [0x20#8, 0x28#8, 0x30#8, 0x40#8, 0x48#8, 0x50#8]

namespace Instr

/-- R230: the sign-extending loads have no DW form. -/
theorem fields_opcode_ne_ldxsdw (i : Instr) : i.fields.opcode ≠ 0x99#8 := by
  cases i <;> simp [Instr.fields, kFields, xFields, mFields, lddwFields, legacyFields]

/-- R234: the subtypes of `LD IMM DW`. -/
theorem fields_src_lddw {i : Instr} (h : i.fields.opcode = 0x18#8) : i.fields.src.toNat < 7 := by
  cases i <;> simp_all [Instr.fields, kFields, xFields, mFields, lddwFields, legacyFields]

/-- R240: `imm` of an atomic operation is one of its selectors. -/
theorem fields_imm_atomic {i : Instr} (h : i.fields.opcode = 0xc3#8 ∨ i.fields.opcode = 0xdb#8) :
    i.fields.imm ∈ atomicSelectors := by
  cases i <;> simp_all [atomicSelectors, Instr.fields, kFields, xFields, mFields, lddwFields, legacyFields]

end Instr

/-! ### Reserved encodings of the supplement -/

section Reserved

variable {p : Params} {x : Slot} {rest : List Slot} (hp : p.Reads x)
include hp

theorem reserved_of_ldxsdw (hx : x.b0 = 0x99#8) : Reserved p (x :: rest) :=
  reserved_of_absent hp fun i _ hop _ => i.fields_opcode_ne_ldxsdw (hop.trans hx)

theorem reserved_of_lddw_subtype (hx : x.b0 = 0x18#8) (hsub : 7 ≤ (x.fields p.hostEndian).src.toNat) :
    Reserved p (x :: rest) := by
  refine reserved_of_absent hp fun i _ hop hf => ?_
  have hlt := Instr.fields_src_lddw (hop.trans hx)
  rw [hf, Slot.used_src _ (by rw [hx]; rfl)] at hlt
  omega

theorem reserved_of_atomic_selector (hx : x.b0 = 0xc3#8 ∨ x.b0 = 0xdb#8)
    (hsel : (x.fields p.hostEndian).imm ∉ atomicSelectors) : Reserved p (x :: rest) := by
  refine reserved_of_absent hp fun i _ hop hf => hsel ?_
  have hmem := Instr.fields_imm_atomic (hop ▸ hx)
  have huses : (uses x.b0).imm = true := by rcases hx with h | h <;> rw [h] <;> rfl
  rwa [hf, Slot.used_imm _ huses] at hmem

end Reserved

/-! ### The legacy packet loads -/

/-- A slot with such an opcode byte decodes to a legacy packet load with all its bits (R235). -/
theorem decodeBasic_legacy (p : Params) {f : Fields} (h : f.opcode ∈ legacyOpcodes) :
    ∃ i, decodeBasic p f = .ok i ∧ i.isLegacy = true ∧ i.fields = f := by
  obtain ⟨op, dst, src, off, imm⟩ := f
  fin_cases h <;> exact ⟨_, decodeBasic_ld p, rfl, Faithful.legacyFields_rest rfl⟩

theorem decode_legacy {p : Params} {x : Slot} (rest : List Slot) (hp : p.Reads x) (hx : x.b0 ∈ legacyOpcodes) :
    ∃ i, decode p (x :: rest) = .ok (i, rest) ∧ i.isLegacy = true ∧ i.fields = x.fields p.hostEndian := by
  have hbasic : x.b0 ≠ 0x18#8 := fun h => absurd (h ▸ hx) (by decide)
  obtain ⟨i, hi, hleg, hfields⟩ := decodeBasic_legacy p (f := x.fields p.hostEndian) (by rwa [Slot.fields_opcode])
  exact ⟨i, by rw [decode_basic hp hbasic, hi]; rfl, hleg, hfields⟩

/-- The check of a program stops at a legacy packet load on its first slot (R235). -/
theorem launch_of_decode_legacy {p : Params} {x : Slot} {more rest : List Slot} {i : Instr}
    (hdec : decode p (x :: more) = .ok (i, rest)) (hleg : i.isLegacy = true) (regs : List (Reg × Word))
    (cells : List Host.Cell) : State.launch p (x :: more) regs cells = .refused .legacyPacketLoad := by
  have hproblem : programProblem p (x :: more) = some .legacyPacketLoad := by
    simp [programProblem, checkFrom, hdec, hleg]
  rw [State.launch, hproblem]

/-- Settles O9: the bytes decode to legacy packet loads, which `launch` and `exec` both refuse. -/
theorem legacyPacketLoadsAreRefused : Obligations.LegacyPacketLoadsAreRefused := by
  refine ⟨fun p x rest hprofile hop => ?_, fun _ _ => exec_legacy⟩
  rw [Slot.fields_opcode] at hop
  obtain ⟨i, hdec, hleg, hfields⟩ := decode_legacy rest (reads_of_supplement hprofile) hop
  exact ⟨i, hdec, hleg, hfields, launch_of_decode_legacy hdec hleg⟩

end Sys2Proof
end

section
/-! PROOFS. The loads, the stores and the atomic operations (O39 to O43, O45, O46): each reads its registers, has its
access admitted, reads or stores the bytes of a value and goes on. What the rules of 44_load_store.md say of an
instruction follows from the one shape of its meaning. -/

namespace Sys2Proof.Machine

/-! ### Values in memory -/

theorem toNat_lowBytes (n : Nat) (v : Word) : (lowBytes n v).toNat = v.toNat % 2 ^ (8 * n) := by
  rw [lowBytes_eq_ofNat, BitVec.toNat_ofNat]
  exact Nat.mod_eq_of_lt (Nat.lt_of_le_of_lt (Nat.mod_le _ _) v.isLt)

theorem lowBytes_of_lt {n : Nat} {v : Word} (h : v.toNat < 2 ^ (8 * n)) : lowBytes n v = v :=
  BitVec.eq_of_toNat_eq (by rw [toNat_lowBytes, Nat.mod_eq_of_lt h])

/-- The comparison of CMPXCHG, as R240 writes it: with `x[0][8n-1:0]`. -/
theorem eq_lowBytes_iff {n : Nat} {old c : Word} : old = lowBytes n c ↔ old.toNat = c.toNat % 2 ^ (8 * n) := by
  rw [← BitVec.toNat_inj, toNat_lowBytes]

section Values

variable {s : State} {ea v : Word} {n : Nat}

/-- `MemRead` answers the one value whose bytes in the host's order are those that the access sees (R42). -/
theorem State.Reads.memRead_eq (h : s.Reads ea n v) : s.memRead ea n = v := by
  obtain ⟨hlt, hbytes⟩ := h
  have hload : s.loadBytes ea.toNat n = hostOrder s.params.hostEndian (bytesOf n v) := by
    rw [hostOrder_bytesOf]
    exact List.map_congr_left fun k hk => (hbytes k (List.mem_range.1 hk)).symm
  calc s.memRead ea n
    _ = lowBytes n v := by rw [State.memRead, hload, hostOrder_hostOrder, lowBytes]
    _ = v := lowBytes_of_lt hlt

/-- `MemWrite` stores the bytes of the value and leaves the rest as it was (R42). -/
theorem State.stores_memWrite (s : State) (ea : Word) (n : Nat) (v : Word) : s.Stores (s.memWrite ea n v) ea n v := by
  refine ⟨rfl, fun k hk => s.byteAt_memWrite ea v hk, fun a ha => State.byteAt_congr ?_⟩
  exact Memory.lookup_storeBytes_outside _ _ _ _ (by simpa using ha)

/-- What an atomic operation leaves in memory: its load's draws used up, then `v` stored. -/
def State.exchange (s : State) (ea : Word) (n : Nat) (v : Word) : State :=
  (s.afterLoad ea.toNat n).memWrite ea n v

@[simp] theorem State.exchange_pc : (s.exchange ea n v).pc = s.pc := by simp [State.exchange]
@[simp] theorem State.exchange_prog : (s.exchange ea n v).prog = s.prog := by simp [State.exchange]

theorem State.stores_exchange (s : State) (ea : Word) (n : Nat) (v : Word) :
    (s.afterLoad ea.toNat n).Stores (s.exchange ea n v) ea n v := State.stores_memWrite ..

/-- What an atomic operation with two register operands leaves: `v` stored, with FETCH `x[src]` the old value (R240). -/
def State.updated (s : State) (fetch : Bool) (src : Reg) (ea : Word) (n : Nat) (v old : Word) : State :=
  if fetch then (s.exchange ea n v).setReg src old else s.exchange ea n v

@[simp] theorem State.updated_pc {fetch : Bool} {src : Reg} {old : Word} :
    (s.updated fetch src ea n v old).pc = s.pc := by cases fetch <;> simp [State.updated]

@[simp] theorem State.updated_prog {fetch : Bool} {src : Reg} {old : Word} :
    (s.updated fetch src ea n v old).prog = s.prog := by cases fetch <;> simp [State.updated]

end Values

/-! ### The shape of the atomic operations with two register operands -/

/-- The model's two shapes, chosen by FETCH (R240). -/
def atomicRegs (fetch : Bool) (n : Nat) (f : Word → Word → Word) (dst src : Reg) (off : Off) (s : State) : Out :=
  if fetch then atomicFetch n f dst src off s else atomicOp n f dst src off s

theorem atomicRegs_eq (fetch : Bool) (n : Nat) (f : Word → Word → Word) (dst src : Reg) (off : Off) (s : State) :
    atomicRegs fetch n f dst src off s =
      s.withReg dst fun base => s.withReg src fun v => s.withAccess .update (effAddr base off) n fun _ =>
        (s.updated fetch src (effAddr base off) n (f (s.memRead (effAddr base off) n) v)
          (s.memRead (effAddr base off) n)).advance 1 := by
  cases fetch <;> rfl

/-! ### Reading registers, with no access admitted -/

/-- This outcome is `MemoryFault` at `ea`, and nothing else has changed (R231, R269). -/
def State.MemFaults (s : State) (ea : Word) (n : Nat) (o : Out) : Prop :=
  ∃ reason, o = .next (s.faulted (.memoryFault ea n reason))

section Denied

variable {s : State} {acc : Access} {off : Off} {n : Nat} {a b c : Reg} {base : Word}

theorem State.withAccess_memFaults {ea : Word} (k : Unit → Out) (h : ¬ s.Admitted acc ea n) :
    s.MemFaults ea n (s.withAccess acc ea n k) := by
  obtain ⟨reason, hden⟩ := (s.admitted_or_denied acc ea n).resolve_left h
  exact ⟨reason, State.withAccess_denied k hden⟩

theorem State.readThree_unwritten {k : Word → Word → Word → Out} (ha : s.Written a) (hb : s.Written b)
    (hc : s.regs.get c = .unwritten) :
    (s.withReg a fun x => s.withReg b fun y => s.withReg c (k x y)) = .next (s.faulted (.uninitRegister c s.pc)) := by
  obtain ⟨v, hv⟩ := ha
  rw [State.withReg_written _ hv]
  exact State.readTwo_unwritten hb hc

variable (ha : s.regs.get a = .written base) (hden : ¬ s.Admitted acc (effAddr base off) n)
include ha hden

theorem State.readOne_memFaults {k : Word → Unit → Out} :
    s.MemFaults (effAddr base off) n
      (s.withReg a fun base => s.withAccess acc (effAddr base off) n (k base)) := by
  rw [State.withReg_written _ ha]
  exact State.withAccess_memFaults _ hden

theorem State.readTwo_memFaults {k : Word → Word → Unit → Out} (hb : s.Written b) :
    s.MemFaults (effAddr base off) n
      (s.withReg a fun base => s.withReg b fun v => s.withAccess acc (effAddr base off) n (k base v)) := by
  obtain ⟨v, hv⟩ := hb
  rw [State.withReg_written _ ha, State.withReg_written _ hv]
  exact State.withAccess_memFaults _ hden

theorem State.readThree_memFaults {k : Word → Word → Word → Unit → Out} (hb : s.Written b) (hc : s.Written c) :
    s.MemFaults (effAddr base off) n
      (s.withReg a fun base => s.withReg b fun v => s.withReg c fun w =>
        s.withAccess acc (effAddr base off) n (k base v w)) := by
  obtain ⟨v, hv⟩ := hb
  rw [State.withReg_written _ ha, State.withReg_written _ hv]
  obtain ⟨w, hw⟩ := hc
  rw [State.withReg_written _ hw]
  exact State.withAccess_memFaults _ hden

end Denied

/-! ### Accesses that are admitted -/

theorem State.advance_goesOn {s u : State} (hpc : u.pc = s.pc) (hprog : u.prog = s.prog) :
    s.GoesOn u (u.advance 1) := by
  rw [State.advance, hpc]
  exact State.goto_goesTo hpc hprog _

section Admitted

variable {s : State} {n : Nat} {dst src : Reg} {off : Off} {base v c old : Word}

theorem load_goesOn {ext : Word → Word} (hbase : s.regs.get src = .written base)
    (hadm : s.Admitted .read (effAddr base off) n) (hread : s.Reads (effAddr base off) n v) :
    s.GoesOn ((s.afterLoad (effAddr base off).toNat n).setReg dst (ext v)) (load n ext dst src off s) := by
  rw [load, State.withReg_written _ hbase, State.withAccess_admitted _ hadm, hread.memRead_eq]
  exact State.advance_goesOn (by simp) (by simp)

variable (hbase : s.regs.get dst = .written base)
include hbase

theorem storeImm_goesOn {imm : Imm} (hadm : s.Admitted .write (effAddr base off) n) :
    s.GoesOn (s.memWrite (effAddr base off) n (immOperand imm)) (storeImm n dst off imm s) := by
  rw [storeImm, State.withReg_written _ hbase, State.withAccess_admitted _ hadm]
  exact State.advance_goesOn rfl rfl

variable (hv : s.regs.get src = .written v)
include hv

theorem storeReg_goesOn (hadm : s.Admitted .write (effAddr base off) n) :
    s.GoesOn (s.memWrite (effAddr base off) n v) (storeReg n dst src off s) := by
  rw [storeReg, State.withReg_written _ hbase, State.withReg_written _ hv, State.withAccess_admitted _ hadm]
  exact State.advance_goesOn rfl rfl

variable (hadm : s.Admitted .update (effAddr base off) n) (hread : s.Reads (effAddr base off) n old)
include hadm hread

theorem atomicRegs_goesOn (f : Word → Word → Word) (fetch : Bool) :
    s.GoesOn (s.updated fetch src (effAddr base off) n (f old v) old) (atomicRegs fetch n f dst src off s) := by
  rw [atomicRegs_eq, State.withReg_written _ hbase, State.withReg_written _ hv, State.withAccess_admitted _ hadm,
    hread.memRead_eq]
  exact State.advance_goesOn (by simp) (by simp)

/-- CMPXCHG stores `x[src]` or leaves memory alone, and writes R0 either way (R240). -/
theorem atomicCmpxchg_goesOn {u : State} (hc : s.regs.get .r0 = .written c)
    (hu : (if old = lowBytes n c then s.exchange (effAddr base off) n v
      else s.afterLoad (effAddr base off).toNat n) = u) :
    s.GoesOn (u.setReg .r0 old) (atomicCmpxchg n dst src off s) := by
  subst hu
  rw [atomicCmpxchg, State.withReg_written _ hbase, State.withReg_written _ hv, State.withReg_written _ hc,
    State.withAccess_admitted _ hadm, hread.memRead_eq]
  exact State.advance_goesOn (by simp [apply_ite State.pc]) (by simp [apply_ite State.prog])

end Admitted

/-! ### The rules, shape by shape

The encoder's rows and the arms of `exec` are found by `rfl`. -/

section Rules

variable {mk : Reg → Reg → Off → Instr} {op : BitVec 8} {n : Nat}

theorem LoadRule.of_exec {ext : Word → Word}
    (enc : ∀ dst src off, (mk dst src off).fields = mFields op dst src off 0 := by exact fun _ _ _ => rfl)
    (ex : ∀ dst src off s, exec (mk dst src off) s = load n ext dst src off s := by exact fun _ _ _ _ => rfl) :
    LoadRule mk op n ext where
  encoding := enc
  result _ _ _ _ _ _ hbase hadm hread := ex .. ▸ load_goesOn hbase hadm hread
  unwritten _ _ _ _ h := ex .. ▸ State.withReg_unwritten _ h
  denied _ _ _ _ _ hbase hden := ex .. ▸ State.readOne_memFaults hbase hden

theorem StoreImmRule.of_exec {mk : Reg → Off → Imm → Instr}
    (enc : ∀ dst off imm, (mk dst off imm).fields = ⟨op, dst.nibble, 0, off, imm⟩ := by exact fun _ _ _ => rfl)
    (ex : ∀ dst off imm s, exec (mk dst off imm) s = storeImm n dst off imm s := by exact fun _ _ _ _ => rfl) :
    StoreImmRule mk op n where
  encoding := enc
  result _ _ _ _ _ hbase hadm := ⟨_, State.stores_memWrite .., ex .. ▸ storeImm_goesOn hbase hadm⟩
  unwritten _ _ _ _ h := ex .. ▸ State.withReg_unwritten _ h
  denied _ _ _ _ _ hbase hden := ex .. ▸ State.readOne_memFaults hbase hden

theorem StoreRegRule.of_exec
    (enc : ∀ dst src off, (mk dst src off).fields = mFields op dst src off 0 := by exact fun _ _ _ => rfl)
    (ex : ∀ dst src off s, exec (mk dst src off) s = storeReg n dst src off s := by exact fun _ _ _ _ => rfl) :
    StoreRegRule mk op n where
  encoding := enc
  result _ _ _ _ _ _ hbase hv hadm := ⟨_, State.stores_memWrite .., ex .. ▸ storeReg_goesOn hbase hv hadm⟩
  unwritten _ _ _ _ h := ex .. ▸ State.withReg_unwritten _ h
  unwrittenSrc _ _ _ _ hbase h := ex .. ▸ State.readTwo_unwritten hbase h
  denied _ _ _ _ _ hbase hv hden := ex .. ▸ State.readTwo_memFaults hbase hden hv

theorem AtomicRule.of_exec {selector : Imm} {f : Word → Word → Word} {fetch : Bool}
    (enc : ∀ dst src off, (mk dst src off).fields = mFields op dst src off selector := by exact fun _ _ _ => rfl)
    (ex : ∀ dst src off s, exec (mk dst src off) s = atomicRegs fetch n f dst src off s := by
      exact fun _ _ _ _ => rfl) :
    AtomicRule mk op selector n f fetch where
  encoding := enc
  result _ _ _ _ _ _ _ hbase hv hadm hread :=
    ⟨_, State.stores_exchange .., ex .. ▸ atomicRegs_goesOn hbase hv hadm hread f fetch⟩
  unwritten _ _ _ _ h := by rw [ex, atomicRegs_eq]; exact State.withReg_unwritten _ h
  unwrittenSrc _ _ _ _ hbase h := by rw [ex, atomicRegs_eq]; exact State.readTwo_unwritten hbase h
  denied _ _ _ _ _ hbase hv hden := by rw [ex, atomicRegs_eq]; exact State.readTwo_memFaults hbase hden hv

theorem CompareRule.of_exec
    (enc : ∀ dst src off, (mk dst src off).fields = mFields op dst src off 0xf1 := by exact fun _ _ _ => rfl)
    (ex : ∀ dst src off s, exec (mk dst src off) s = atomicCmpxchg n dst src off s := by
      exact fun _ _ _ _ => rfl) :
    CompareRule mk op n where
  encoding := enc
  equal _ _ _ _ _ _ _ _ hbase hv hc hadm hread heq :=
    ⟨_, State.stores_exchange .., ex .. ▸
      atomicCmpxchg_goesOn hbase hv hadm hread hc (if_pos (eq_lowBytes_iff.2 heq))⟩
  different _ _ _ _ _ _ _ _ hbase hv hc hadm hread hne :=
    ex .. ▸ atomicCmpxchg_goesOn hbase hv hadm hread hc (if_neg (mt eq_lowBytes_iff.1 hne))
  unwritten _ _ _ _ h := ex .. ▸ State.withReg_unwritten _ h
  unwrittenSrc _ _ _ _ hbase h := ex .. ▸ State.readTwo_unwritten hbase h
  unwrittenR0 _ _ _ _ hbase hv h := ex .. ▸ State.readThree_unwritten hbase hv h
  denied _ _ _ _ _ hbase hv hc hden := ex .. ▸ State.readThree_memFaults hbase hden hv hc

theorem ConstantRule.of_exec {mk : Reg → Imm → Imm → Instr} {subtype : Nibble} {value : Imm → Imm → Word}
    (enc : ∀ e dst imm nextImm, encode e (mk dst imm nextImm) =
      [Slot.ofFields e (lddwFields subtype dst imm), Slot.ofSecond e 0 nextImm] := by exact fun _ _ _ _ => rfl)
    (ex : ∀ dst imm nextImm s, exec (mk dst imm nextImm) s = loadConst (value imm nextImm) dst s := by
      exact fun _ _ _ _ => rfl) :
    ConstantRule mk subtype value where
  encoding := enc
  result s dst imm nextImm := ex .. ▸ State.goto_goesTo (u := s.setReg dst (value imm nextImm)) rfl rfl _

end Rules

/-! ### The statements -/

/-- Settles O39: one shape at four widths. -/
theorem loadsZeroExtend : Obligations.LoadsZeroExtend :=
  ⟨.of_exec, .of_exec, .of_exec, .of_exec⟩

/-- Settles O40: the same shape with the sign extension, and no instruction with the opcode byte of a DW form. -/
theorem loadsSignExtend : Obligations.LoadsSignExtend :=
  ⟨.of_exec, .of_exec, .of_exec, fun _ _ _ hprofile => reserved_of_ldxsdw (reads_of_supplement hprofile)⟩

/-- Settles O41: the constant's value is that of the concatenation's two parts. -/
theorem loadConstant64 : Obligations.LoadConstant64 :=
  ⟨.of_exec, fun imm nextImm => toNat_append_add nextImm imm⟩

/-- Settles O42: the shape of O41 with the platform's functions, and no instruction with another subtype. -/
theorem platformAddressLoads : Obligations.PlatformAddressLoads :=
  ⟨.of_exec, .of_exec, .of_exec, .of_exec, .of_exec, .of_exec,
    fun _ _ _ hprofile => reserved_of_lddw_subtype (reads_of_supplement hprofile)⟩

/-- Settles O43: two shapes, each at four widths. -/
theorem storesWriteTheirBytes : Obligations.StoresWriteTheirBytes :=
  ⟨.of_exec, .of_exec, .of_exec, .of_exec, .of_exec, .of_exec, .of_exec, .of_exec⟩

/-- Settles O45: one shape for each operation, with and without FETCH, and no instruction with another selector. -/
theorem atomicOperations : Obligations.AtomicOperations :=
  ⟨.of_exec, .of_exec, .of_exec, .of_exec, .of_exec, .of_exec, .of_exec, .of_exec, .of_exec,
    .of_exec, .of_exec, .of_exec, .of_exec, .of_exec, .of_exec, .of_exec, .of_exec, .of_exec,
    fun _ _ _ hprofile => reserved_of_atomic_selector (reads_of_supplement hprofile)⟩

/-- Settles O46: one shape at two widths. -/
theorem compareAndExchange : Obligations.CompareAndExchange :=
  ⟨.of_exec, .of_exec⟩

end Sys2Proof.Machine
end

section
/-! PROOFS. Faults are precise (O59): the faults other than `BadJumpTarget` are recorded before an instruction has done
anything, and `BadJumpTarget` is recorded by the jump to a bad slot, after the instruction's writes but with `pc` still
at the instruction (R260, R269). -/

namespace Sys2Proof.Machine

/-- The only fault that going to a slot records is `BadJumpTarget`, and `pc` then stays (R163, R190). -/
theorem State.goto_faults {u t : State} {target : Int} {f : FaultRecord} (h : u.goto target = .next t)
    (hu : u.fault = none) (ht : t.fault = some f) : t.pc = u.pc ∧ f = .badJumpTarget u.pc target := by
  rcases State.goto_cases h with ⟨_, rfl⟩ | ⟨_, rfl⟩
  · cases hu.symm.trans ht
  · cases ht
    exact ⟨rfl, rfl⟩

/-- What the state is after a step from `s` that recorded the fault `f`: `s` with the fault, or a state whose `pc` has not
moved, after a jump to a bad slot. -/
inductive Precise (s t : State) (f : FaultRecord) : Prop where
  | recorded : t = s.faulted f → Precise s t f
  | badJump (target : Int) : t.pc = s.pc → f = .badJumpTarget s.pc target → Precise s t f

/-- However an instruction records a fault, it does so precisely. -/
theorem Ends.precise {i : Instr} {s t : State} {f : FaultRecord} (h : Ends i s t) (hs : s.fault = none)
    (ht : t.fault = some f) : Precise s t f := by
  rcases h with ⟨g, rfl⟩ | ⟨_, _, v, _, rfl⟩ | ⟨u, target, did, hgoto⟩
  · cases ht
    exact .recorded rfl
  · cases hs.symm.trans ht
  · obtain ⟨hpc, hf⟩ := State.goto_faults hgoto (did.fault.trans hs) ht
    rw [did.pc] at hpc hf
    exact .badJump target hpc hf

theorem step_precise {s t : State} {f : FaultRecord} (h : step s = .next t) (ht : t.fault = some f) :
    Precise s t f := by
  have hrun := State.running_of_step h
  obtain ⟨_, ⟨i, _, hexec⟩ | ⟨g, _, rfl⟩⟩ := step_cases h
  · exact (exec_cases hexec).precise hrun.1 ht
  · cases ht
    exact .recorded rfl

/-- Settles O59: a step that records a fault is one of the two of `Precise`. -/
theorem faultsArePrecise : Obligations.FaultsArePrecise := by
  intro s t f h ht
  cases step_precise h ht with
  | recorded heq => exact ⟨heq ▸ rfl, fun _ => heq⟩
  | badJump target hpc hf => exact ⟨hpc, fun hother => absurd hf (hother target)⟩

end Sys2Proof.Machine
end

section
/-! PROOFS. The endless loop (O60): an instruction that goes to its own slot with no effects is a step from the state to
itself, and a run that repeats one state meets no fault (R295). -/

namespace Sys2Proof.Machine

/-- With no effects, going to the slot the state is at answers that same state. -/
theorem State.GoesTo.eq_next_self {s : State} {o : Out} (h : s.GoesTo s s.pc o) (hpc : s.PcInv) : o = .next s :=
  h.1 hpc

/-- `ja -1` goes to its own slot: the offset counts from the next one (R164). -/
theorem exec_ja_neg_one {s : State} (hpc : s.PcInv) : exec (.ja (-1)) s = .next s := by
  obtain ⟨_, hja, _⟩ := unconditionalJumps
  have htarget : (s.pc : Int) + 1 + (-1 : Off).toInt = s.pc := by
    have hoff : (-1 : Off).toInt = -1 := by decide
    omega
  exact (htarget ▸ hja s (-1)).eq_next_self hpc

/-- A state that steps to itself meets no fault in any number of steps: each step meets the same state again, which has
no fault because it has a step. -/
theorem State.safeFor_of_step_self {s : State} (h : step s = .next s) (k : Nat) : s.SafeFor k := by
  have hfault : s.fault = none := (State.running_of_step h).1
  induction k with
  | zero => exact hfault
  | succ k ih =>
    refine ⟨hfault, fun t ht => ?_⟩
    cases h.symm.trans ht
    exact ih

/-- Settles O60: the step is `ja -1`, which keeps the state, and a state that steps to itself stays safe. -/
theorem endlessLoopIsNoFault : Obligations.EndlessLoopIsNoFault := by
  intro s rest hrun hpc hdec
  have hself : step s = .next s := (stepRunsDecodedInstruction s _ rest hrun hpc hdec).trans (exec_ja_neg_one hpc)
  exact ⟨hself, State.safeFor_of_step_self hself⟩

end Sys2Proof.Machine
end
